-- ==== Sys2Proof/Word.lean ====
section
/-! DEFINITION. The bit patterns of the block (00_scope.md section 4, 30_encoding.md R50): the encoded word and the
widths of its fields. Only what the spec itself reads as bits is a bit vector. -/

namespace Sys2Proof

/-- One byte of a stream, or of a word. -/
abbrev Byte := BitVec 8

/-- `EncodedWord` and the contents of a stepper register: `WORDW = XLEN = 64` (00_scope.md section 4). -/
abbrev Word := BitVec 64

/-- The opcode byte, word bits 63 to 56 (R50, R51). -/
abbrev Opcode := BitVec 8

/-- A register field of a word: `REGFW = 4`, values 0 to 15 (R52, R56). -/
abbrev RegField := BitVec 4

/-- The 16-bit pattern of an Offset, already reassembled; its value is `toInt` (R53). -/
abbrev OffField := BitVec 16

/-- The 32-bit pattern of an Imm or a NextImm, already reassembled; its value is `toInt` (R54, R58). -/
abbrev ImmField := BitVec 32

end Sys2Proof
end

