-- ==== Sys2Proof/Machine/Opcode.lean ====
section
/-! DEFINITION. The OpcodeClassifier (30_encoding.md section 3): the classes, types, codes, modes and sizes by the
spec's names, their numeric values, and the typed opcode. `Classify` is total on the 256 opcode bytes and is computed
once; the typed opcode is a sum type in which each variant carries its own fields only (R64). -/

namespace Sys2Proof

/-- The eight classes (R61). -/
inductive OpClass
  | ld | ldx | st | stx | alu | jmp | jmp32 | alu64
deriving DecidableEq, Repr

/-- The two groupings of classes (R62). -/
inductive OpType
  | loadAndStore | arithmeticAndJump
deriving DecidableEq, Repr

/-- Bit 3 of an arithmetic or jump opcode: immediate constant K or register X (R65). -/
inductive Source
  | k | x
deriving DecidableEq, Repr

/-- The classes of the ArithmeticOpcode variant (R63): 32-bit and 64-bit. -/
inductive ArithClass
  | alu | alu64
deriving DecidableEq, Repr

/-- The classes of the JumpOpcode variant (R63). -/
inductive JumpClass
  | jmp | jmp32
deriving DecidableEq, Repr

/-- The classes of the LoadAndStoreOpcode variant (R63). -/
inductive LSClass
  | ld | ldx | st | stx
deriving DecidableEq, Repr

/-- The sixteen values of an arithmetic Code: fourteen defined, 0xe and 0xf undefined (R66). -/
inductive ArithCode
  | add | sub | mul | div | or | and | lsh | rsh | neg | mod | xor | mov | arsh | end_ | codeE | codeF
deriving DecidableEq, Repr

/-- The sixteen values of a jump Code: fourteen defined, 0xe and 0xf undefined (R67). -/
inductive JumpCode
  | ja | jeq | jgt | jge | jset | jne | jsgt | jsge | call | exit | jlt | jle | jslt | jsle | codeE | codeF
deriving DecidableEq, Repr

/-- The eight values of Mode: six defined, 5 and 7 undefined (R68). -/
inductive Mode
  | imm | abs | ind | mem | memsx | mode5 | atomic | mode7
deriving DecidableEq, Repr

/-- The four values of Size: word, half-word, byte, double-word (R69). -/
inductive Size
  | w | h | b | dw
deriving DecidableEq, Repr

/-- The TypedOpcode: exactly one of three variants, each with its own accessors only (R63, R64). -/
inductive TypedOpcode
  | arithmetic (cls : ArithClass) (source : Source) (code : ArithCode)
  | jump (cls : JumpClass) (source : Source) (code : JumpCode)
  | loadStore (cls : LSClass) (mode : Mode) (size : Size)
deriving DecidableEq, Repr

/-- The class a 3-bit value names (R61). -/
def classOfBits (b : BitVec 3) : OpClass :=
  match b.toNat with
  | 0 => .ld
  | 1 => .ldx
  | 2 => .st
  | 3 => .stx
  | 4 => .alu
  | 5 => .jmp
  | 6 => .jmp32
  | _ => .alu64

/-- The arithmetic code a 4-bit value names (R66). -/
def arithCodeOfBits (b : BitVec 4) : ArithCode :=
  match b.toNat with
  | 0x0 => .add
  | 0x1 => .sub
  | 0x2 => .mul
  | 0x3 => .div
  | 0x4 => .or
  | 0x5 => .and
  | 0x6 => .lsh
  | 0x7 => .rsh
  | 0x8 => .neg
  | 0x9 => .mod
  | 0xa => .xor
  | 0xb => .mov
  | 0xc => .arsh
  | 0xd => .end_
  | 0xe => .codeE
  | _ => .codeF

/-- The jump code a 4-bit value names (R67). -/
def jumpCodeOfBits (b : BitVec 4) : JumpCode :=
  match b.toNat with
  | 0x0 => .ja
  | 0x1 => .jeq
  | 0x2 => .jgt
  | 0x3 => .jge
  | 0x4 => .jset
  | 0x5 => .jne
  | 0x6 => .jsgt
  | 0x7 => .jsge
  | 0x8 => .call
  | 0x9 => .exit
  | 0xa => .jlt
  | 0xb => .jle
  | 0xc => .jslt
  | 0xd => .jsle
  | 0xe => .codeE
  | _ => .codeF

/-- The mode a 3-bit value names (R68). -/
def modeOfBits (b : BitVec 3) : Mode :=
  match b.toNat with
  | 0 => .imm
  | 1 => .abs
  | 2 => .ind
  | 3 => .mem
  | 4 => .memsx
  | 5 => .mode5
  | 6 => .atomic
  | _ => .mode7

/-- The size a 2-bit value names (R69). -/
def sizeOfBits (b : BitVec 2) : Size :=
  match b.toNat with
  | 0 => .w
  | 1 => .h
  | 2 => .b
  | _ => .dw

/-- `Class(opcode) = opcode[2:0]` (R60). -/
def opClass (op : Opcode) : OpClass := classOfBits (op.extractLsb' 0 3)

/-- `Type(class)` (R62). -/
def opType : OpClass → OpType
  | .ld | .ldx | .st | .stx => .loadAndStore
  | .alu | .jmp | .jmp32 | .alu64 => .arithmeticAndJump

/-- `Source()` of an arithmetic or jump opcode: opcode bit 3 (R65). -/
def opSource (op : Opcode) : Source := if op.getLsbD 3 then .x else .k

/-- `Code()` of an arithmetic opcode: the high nibble (R66). -/
def opArithCode (op : Opcode) : ArithCode := arithCodeOfBits (op.extractLsb' 4 4)

/-- `Code()` of a jump opcode: the opcode shifted right by 4 (R67). -/
def opJumpCode (op : Opcode) : JumpCode := jumpCodeOfBits (op.extractLsb' 4 4)

/-- `Mode()` of a load/store opcode: the high three bits (R68). -/
def opMode (op : Opcode) : Mode := modeOfBits (op.extractLsb' 5 3)

/-- `Size()` of a load/store opcode: bits 4 and 3 (R69). -/
def opSize (op : Opcode) : Size := sizeOfBits (op.extractLsb' 3 2)

/-- `ToTyped(opcode)`: the variant is selected by the class alone (R63). -/
def toTyped (op : Opcode) : TypedOpcode :=
  match opClass op with
  | .alu => .arithmetic .alu (opSource op) (opArithCode op)
  | .alu64 => .arithmetic .alu64 (opSource op) (opArithCode op)
  | .jmp => .jump .jmp (opSource op) (opJumpCode op)
  | .jmp32 => .jump .jmp32 (opSource op) (opJumpCode op)
  | .ld => .loadStore .ld (opMode op) (opSize op)
  | .ldx => .loadStore .ldx (opMode op) (opSize op)
  | .st => .loadStore .st (opMode op) (opSize op)
  | .stx => .loadStore .stx (opMode op) (opSize op)

/-- `IsExtended` as a function of the opcode byte: a load/store opcode whose Mode is IMM, whatever its class and size
(R70, decision D17). -/
def opExtended (op : Opcode) : Bool :=
  match toTyped op with
  | .loadStore _ .imm _ => true
  | .loadStore _ _ _ => false
  | .arithmetic _ _ _ => false
  | .jump _ _ _ => false

/-- The numeric value of a load/store class (R61). -/
def LSClass.bits : LSClass → BitVec 3
  | .ld => 0
  | .ldx => 1
  | .st => 2
  | .stx => 3

/-- The numeric value of a size (R69). -/
def Size.bits : Size → BitVec 2
  | .w => 0
  | .h => 1
  | .b => 2
  | .dw => 3

/-- The numeric value of a mode (R68). -/
def Mode.bits : Mode → BitVec 3
  | .imm => 0
  | .abs => 1
  | .ind => 2
  | .mem => 3
  | .memsx => 4
  | .mode5 => 5
  | .atomic => 6
  | .mode7 => 7

/-- The opcode byte of a load/store encoding: mode, size, class from the high bits down (R50). -/
def lsOpcode (m : Mode) (z : Size) (c : LSClass) : Opcode := m.bits ++ z.bits ++ c.bits

end Sys2Proof
end

