-- ==== Sys2Proof/Machine/Fields.lean ====
section
/-! DEFINITION. The BitfieldCodec (30_encoding.md section 2) and the byte order of a word (20_memory.md section 2):
the fields of a 64-bit word, the 64-bit immediate, and the stream bytes of a word. All total, none validates (R55). -/

namespace Sys2Proof

/-- The byte order of a 16-bit field turned round: what stands in the word against the reassembled pattern (R34, R53). -/
def swap16 (v : BitVec 16) : BitVec 16 := v.extractLsb' 0 8 ++ v.extractLsb' 8 8

/-- The byte order of a 32-bit field turned round (R34, R54). -/
def swap32 (v : BitVec 32) : BitVec 32 :=
  v.extractLsb' 0 8 ++ v.extractLsb' 8 8 ++ v.extractLsb' 16 8 ++ v.extractLsb' 24 8

/-- `Opcode(w) = w[63:56]` (R51). -/
def opcodeOf (w : Word) : Opcode := w.extractLsb' 56 8

/-- `src = w[55:52]`, the high nibble of the register byte (R52). -/
def srcOf (w : Word) : RegField := w.extractLsb' 52 4

/-- `dst = w[51:48]`, the low nibble of the register byte (R52). -/
def dstOf (w : Word) : RegField := w.extractLsb' 48 4

/-- The pattern of `Offset(w)`: word bits 47 to 40 are its low byte, 39 to 32 its high byte (R53). -/
def offOf (w : Word) : OffField := swap16 (w.extractLsb' 32 16)

/-- The pattern of `Imm(w)`: word bits 31 to 24 are its least significant byte, 7 to 0 its most significant (R54). -/
def immOf (w : Word) : ImmField := swap32 (w.extractLsb' 0 32)

/-- The outputs of `Fields(w)` (00_scope.md section 5). -/
structure Fields where
  opcode : Opcode
  src : RegField
  dst : RegField
  off : OffField
  imm : ImmField
deriving DecidableEq, Repr

/-- `Fields(w)` (R51 to R55). -/
def fields (w : Word) : Fields := ⟨opcodeOf w, srcOf w, dstOf w, offOf w, immOf w⟩

/-- `IsExtended(w)` (R70): a function of the opcode byte only. -/
def isExtended (w : Word) : Bool := opExtended (opcodeOf w)

/-- The pattern of `Imm64`: the pattern of NextImm above the pattern of Imm, which does not sign-extend (R59). -/
def imm64 (imm nextImm : ImmField) : BitVec 64 := nextImm ++ imm

/-- `Imm64(basic, ext)` as the unit's operation on two words (R58, R59); its value is `toInt`. -/
def imm64Of (basic ext : Word) : BitVec 64 := imm64 (immOf basic) (immOf ext)

/-- The outputs of `Classify(opcode)` (00_scope.md section 5, R60 to R70). -/
structure Classification where
  cls : OpClass
  type : OpType
  variant : TypedOpcode
  isExtended : Bool
deriving DecidableEq, Repr

/-- `Classify(opcode)` (R60 to R70). -/
def classify (op : Opcode) : Classification := ⟨opClass op, opType (opClass op), toTyped op, opExtended op⟩

/-- A word put together from its fields in the layout of R50. -/
def mkWord (op : Opcode) (src dst : RegField) (off : OffField) (imm : ImmField) : Word :=
  op ++ src ++ dst ++ swap16 off ++ swap32 imm

/-- The eight stream bytes of a word, `sbyte(w, 0)` first: the most significant byte leads (R33). -/
def streamBytes (w : Word) : List Byte :=
  [w.extractLsb' 56 8, w.extractLsb' 48 8, w.extractLsb' 40 8, w.extractLsb' 32 8,
   w.extractLsb' 24 8, w.extractLsb' 16 8, w.extractLsb' 8 8, w.extractLsb' 0 8]

/-- The word the next eight stream bytes make, and the bytes after them; `none` when fewer than eight are left (R33). -/
def takeWord : List Byte → Option (Word × List Byte)
  | b0 :: b1 :: b2 :: b3 :: b4 :: b5 :: b6 :: b7 :: rest =>
      some (b0 ++ b1 ++ b2 ++ b3 ++ b4 ++ b5 ++ b6 ++ b7, rest)
  | _ => none

end Sys2Proof
end

