-- ==== Sys2Proof/Syntax.lean ====
section
/-! DEFINITION. The instructions of the block: one constructor per row of the opcode table, in the table's order. A
constructor carries exactly the fields its row reads and its mask does not fix (R57, R75): `dst`, `src` register fields,
`off` and `imm` patterns already reassembled (R53, R54), `nextImm` of the extension word (R58); `cls` and `size` where
one row covers several opcode bytes; `fetch` where one row covers an atomic operation with and without its fetch bit. -/

namespace Sys2Proof

/-- An instruction: a row of the opcode table with the values of the fields it reads. -/
inductive Instr
  /-- ALU_ADD_K, opcode byte 0x04 (R102). -/
  | aluAddK (dst : RegField) (imm : ImmField)
  /-- ALU_ADD_X, opcode byte 0x0c (R102). -/
  | aluAddX (dst : RegField) (src : RegField)
  /-- ALU64_ADD_K, opcode byte 0x07 (R102). -/
  | alu64AddK (dst : RegField) (imm : ImmField)
  /-- ALU64_ADD_X, opcode byte 0x0f (R102). -/
  | alu64AddX (dst : RegField) (src : RegField)
  /-- ALU_SUB_K, opcode byte 0x14 (R103). -/
  | aluSubK (dst : RegField) (imm : ImmField)
  /-- ALU_SUB_X, opcode byte 0x1c (R103). -/
  | aluSubX (dst : RegField) (src : RegField)
  /-- ALU64_SUB_K, opcode byte 0x17 (R103). -/
  | alu64SubK (dst : RegField) (imm : ImmField)
  /-- ALU64_SUB_X, opcode byte 0x1f (R103). -/
  | alu64SubX (dst : RegField) (src : RegField)
  /-- ALU_MUL_K, opcode byte 0x24 (R104). -/
  | aluMulK (dst : RegField) (imm : ImmField)
  /-- ALU_MUL_X, opcode byte 0x2c (R104). -/
  | aluMulX (dst : RegField) (src : RegField)
  /-- ALU64_MUL_K, opcode byte 0x27 (R104). -/
  | alu64MulK (dst : RegField) (imm : ImmField)
  /-- ALU64_MUL_X, opcode byte 0x2f (R104). -/
  | alu64MulX (dst : RegField) (src : RegField)
  /-- ALU_DIV_K_SRC0, opcode byte 0x34 (R105). -/
  | aluDivKSrc0 (dst : RegField)
  /-- ALU_DIV_K, opcode byte 0x34 (R105). -/
  | aluDivK (dst : RegField) (src : RegField) (imm : ImmField)
  /-- ALU_DIV_X_SRC0, opcode byte 0x3c (R105). -/
  | aluDivXSrc0 (dst : RegField)
  /-- ALU_DIV_X, opcode byte 0x3c (R105). -/
  | aluDivX (dst : RegField) (src : RegField)
  /-- ALU64_DIV_K_SRC0, opcode byte 0x37 (R105). -/
  | alu64DivKSrc0 (dst : RegField)
  /-- ALU64_DIV_K, opcode byte 0x37 (R105). -/
  | alu64DivK (dst : RegField) (src : RegField) (imm : ImmField)
  /-- ALU64_DIV_X_SRC0, opcode byte 0x3f (R105). -/
  | alu64DivXSrc0 (dst : RegField)
  /-- ALU64_DIV_X, opcode byte 0x3f (R105). -/
  | alu64DivX (dst : RegField) (src : RegField)
  /-- ALU_OR_K, opcode byte 0x44 (R106). -/
  | aluOrK (dst : RegField) (imm : ImmField)
  /-- ALU_OR_X, opcode byte 0x4c (R106). -/
  | aluOrX (dst : RegField) (src : RegField)
  /-- ALU64_OR_K, opcode byte 0x47 (R106). -/
  | alu64OrK (dst : RegField) (imm : ImmField)
  /-- ALU64_OR_X, opcode byte 0x4f (R106). -/
  | alu64OrX (dst : RegField) (src : RegField)
  /-- ALU_AND_K, opcode byte 0x54 (R107). -/
  | aluAndK (dst : RegField) (imm : ImmField)
  /-- ALU_AND_X, opcode byte 0x5c (R107). -/
  | aluAndX (dst : RegField) (src : RegField)
  /-- ALU64_AND_K, opcode byte 0x57 (R107). -/
  | alu64AndK (dst : RegField) (imm : ImmField)
  /-- ALU64_AND_X, opcode byte 0x5f (R107). -/
  | alu64AndX (dst : RegField) (src : RegField)
  /-- ALU_LSH_K, opcode byte 0x64 (R108). -/
  | aluLshK (dst : RegField) (imm : ImmField)
  /-- ALU_LSH_X, opcode byte 0x6c (R108). -/
  | aluLshX (dst : RegField) (src : RegField)
  /-- ALU64_LSH_K, opcode byte 0x67 (R108). -/
  | alu64LshK (dst : RegField) (imm : ImmField)
  /-- ALU64_LSH_X, opcode byte 0x6f (R108). -/
  | alu64LshX (dst : RegField) (src : RegField)
  /-- ALU_RSH_K, opcode byte 0x74 (R109). -/
  | aluRshK (dst : RegField) (imm : ImmField)
  /-- ALU_RSH_X, opcode byte 0x7c (R109). -/
  | aluRshX (dst : RegField) (src : RegField)
  /-- ALU64_RSH_K, opcode byte 0x77 (R109). -/
  | alu64RshK (dst : RegField) (imm : ImmField)
  /-- ALU64_RSH_X, opcode byte 0x7f (R109). -/
  | alu64RshX (dst : RegField) (src : RegField)
  /-- ALU_NEG_K, opcode byte 0x84 (R110). -/
  | aluNegK (dst : RegField) (src : RegField)
  /-- ALU_NEG_X, opcode byte 0x8c (R110). -/
  | aluNegX (dst : RegField) (src : RegField)
  /-- ALU64_NEG_K, opcode byte 0x87 (R110). -/
  | alu64NegK (dst : RegField) (src : RegField)
  /-- ALU64_NEG_X, opcode byte 0x8f (R110). -/
  | alu64NegX (dst : RegField) (src : RegField)
  /-- ALU_MOD_K_SRC0, opcode byte 0x94 (R111). -/
  | aluModKSrc0 (dst : RegField)
  /-- ALU_MOD_K, opcode byte 0x94 (R111). -/
  | aluModK (dst : RegField) (src : RegField) (imm : ImmField)
  /-- ALU_MOD_X_SRC0, opcode byte 0x9c (R111). -/
  | aluModXSrc0 (dst : RegField)
  /-- ALU_MOD_X, opcode byte 0x9c (R111). -/
  | aluModX (dst : RegField) (src : RegField)
  /-- ALU64_MOD_K_SRC0, opcode byte 0x97 (R111). -/
  | alu64ModKSrc0 (dst : RegField)
  /-- ALU64_MOD_K, opcode byte 0x97 (R111). -/
  | alu64ModK (dst : RegField) (src : RegField) (imm : ImmField)
  /-- ALU64_MOD_X_SRC0, opcode byte 0x9f (R111). -/
  | alu64ModXSrc0 (dst : RegField)
  /-- ALU64_MOD_X, opcode byte 0x9f (R111). -/
  | alu64ModX (dst : RegField) (src : RegField)
  /-- ALU_XOR_K, opcode byte 0xa4 (R112). -/
  | aluXorK (dst : RegField) (imm : ImmField)
  /-- ALU_XOR_X, opcode byte 0xac (R112). -/
  | aluXorX (dst : RegField) (src : RegField)
  /-- ALU64_XOR_K, opcode byte 0xa7 (R112). -/
  | alu64XorK (dst : RegField) (imm : ImmField)
  /-- ALU64_XOR_X, opcode byte 0xaf (R112). -/
  | alu64XorX (dst : RegField) (src : RegField)
  /-- ALU_MOV_K, opcode byte 0xb4 (R113). -/
  | aluMovK (dst : RegField) (imm : ImmField)
  /-- ALU_MOV_X, opcode byte 0xbc (R113). -/
  | aluMovX (dst : RegField) (src : RegField)
  /-- ALU64_MOV_K, opcode byte 0xb7 (R113). -/
  | alu64MovK (dst : RegField) (imm : ImmField)
  /-- ALU64_MOV_X, opcode byte 0xbf (R113). -/
  | alu64MovX (dst : RegField) (src : RegField)
  /-- ALU_ARSH_K, opcode byte 0xc4 (R114). -/
  | aluArshK (dst : RegField) (imm : ImmField)
  /-- ALU_ARSH_X, opcode byte 0xcc (R114). -/
  | aluArshX (dst : RegField) (src : RegField)
  /-- ALU64_ARSH_K, opcode byte 0xc7 (R114). -/
  | alu64ArshK (dst : RegField) (imm : ImmField)
  /-- ALU64_ARSH_X, opcode byte 0xcf (R114). -/
  | alu64ArshX (dst : RegField) (src : RegField)
  /-- ALU_END_K, opcode byte 0xd4 (R115): unsupported BYTE_SWAP. -/
  | aluEndK
  /-- ALU_END_X, opcode byte 0xdc (R115): unsupported BYTE_SWAP. -/
  | aluEndX
  /-- ALU64_END_K, opcode byte 0xd7 (R115): unsupported BYTE_SWAP. -/
  | alu64EndK
  /-- ALU64_END_X, opcode byte 0xdf (R115): unsupported BYTE_SWAP. -/
  | alu64EndX
  /-- JMP_JA_K, opcode byte 0x05 (R131). -/
  | jmpJaK (off : OffField)
  /-- JMP_JA_X, opcode byte 0x0d (R131). -/
  | jmpJaX (off : OffField)
  /-- JMP32_JA_K, opcode byte 0x06 (R131). -/
  | jmp32JaK (off : OffField)
  /-- JMP32_JA_X, opcode byte 0x0e (R131). -/
  | jmp32JaX (off : OffField)
  /-- JMP_JEQ_K, opcode byte 0x15 (R132). -/
  | jmpJeqK (dst : RegField) (off : OffField) (imm : ImmField)
  /-- JMP_JEQ_X, opcode byte 0x1d (R132). -/
  | jmpJeqX (dst : RegField) (src : RegField) (off : OffField)
  /-- JMP32_JEQ_K, opcode byte 0x16 (R132). -/
  | jmp32JeqK (dst : RegField) (off : OffField) (imm : ImmField)
  /-- JMP32_JEQ_X, opcode byte 0x1e (R132). -/
  | jmp32JeqX (dst : RegField) (src : RegField) (off : OffField)
  /-- JMP_JGT_K, opcode byte 0x25 (R133). -/
  | jmpJgtK (dst : RegField) (off : OffField) (imm : ImmField)
  /-- JMP_JGT_X, opcode byte 0x2d (R133). -/
  | jmpJgtX (dst : RegField) (src : RegField) (off : OffField)
  /-- JMP32_JGT_K, opcode byte 0x26 (R133). -/
  | jmp32JgtK (dst : RegField) (off : OffField) (imm : ImmField)
  /-- JMP32_JGT_X, opcode byte 0x2e (R133). -/
  | jmp32JgtX (dst : RegField) (src : RegField) (off : OffField)
  /-- JMP_JGE_K, opcode byte 0x35 (R134). -/
  | jmpJgeK (dst : RegField) (off : OffField) (imm : ImmField)
  /-- JMP_JGE_X, opcode byte 0x3d (R134). -/
  | jmpJgeX (dst : RegField) (src : RegField) (off : OffField)
  /-- JMP32_JGE_K, opcode byte 0x36 (R134). -/
  | jmp32JgeK (dst : RegField) (off : OffField) (imm : ImmField)
  /-- JMP32_JGE_X, opcode byte 0x3e (R134). -/
  | jmp32JgeX (dst : RegField) (src : RegField) (off : OffField)
  /-- JMP_JSET_K, opcode byte 0x45 (R135). -/
  | jmpJsetK (dst : RegField) (off : OffField) (imm : ImmField)
  /-- JMP_JSET_X, opcode byte 0x4d (R135). -/
  | jmpJsetX (dst : RegField) (src : RegField) (off : OffField)
  /-- JMP32_JSET_K, opcode byte 0x46 (R135). -/
  | jmp32JsetK (dst : RegField) (off : OffField) (imm : ImmField)
  /-- JMP32_JSET_X, opcode byte 0x4e (R135). -/
  | jmp32JsetX (dst : RegField) (src : RegField) (off : OffField)
  /-- JMP_JNE_K, opcode byte 0x55 (R136). -/
  | jmpJneK (dst : RegField) (off : OffField) (imm : ImmField)
  /-- JMP_JNE_X, opcode byte 0x5d (R136). -/
  | jmpJneX (dst : RegField) (src : RegField) (off : OffField)
  /-- JMP32_JNE_K, opcode byte 0x56 (R136). -/
  | jmp32JneK (dst : RegField) (off : OffField) (imm : ImmField)
  /-- JMP32_JNE_X, opcode byte 0x5e (R136). -/
  | jmp32JneX (dst : RegField) (src : RegField) (off : OffField)
  /-- JMP_JSGT_K, opcode byte 0x65 (R137). -/
  | jmpJsgtK (dst : RegField) (off : OffField) (imm : ImmField)
  /-- JMP_JSGT_X, opcode byte 0x6d (R137). -/
  | jmpJsgtX (dst : RegField) (src : RegField) (off : OffField)
  /-- JMP32_JSGT_K, opcode byte 0x66 (R137). -/
  | jmp32JsgtK (dst : RegField) (off : OffField) (imm : ImmField)
  /-- JMP32_JSGT_X, opcode byte 0x6e (R137). -/
  | jmp32JsgtX (dst : RegField) (src : RegField) (off : OffField)
  /-- JMP_JSGE_K, opcode byte 0x75 (R138). -/
  | jmpJsgeK (dst : RegField) (off : OffField) (imm : ImmField)
  /-- JMP_JSGE_X, opcode byte 0x7d (R138). -/
  | jmpJsgeX (dst : RegField) (src : RegField) (off : OffField)
  /-- JMP32_JSGE_K, opcode byte 0x76 (R138). -/
  | jmp32JsgeK (dst : RegField) (off : OffField) (imm : ImmField)
  /-- JMP32_JSGE_X, opcode byte 0x7e (R138). -/
  | jmp32JsgeX (dst : RegField) (src : RegField) (off : OffField)
  /-- JMP_CALL_K_SEL0, opcode byte 0x85 (R143). -/
  | jmpCallKSel0 (imm : ImmField)
  /-- JMP_CALL_K_SEL1, opcode byte 0x85 (R143). -/
  | jmpCallKSel1 (off : OffField)
  /-- JMP_CALL_K_SEL2, opcode byte 0x85 (R143). -/
  | jmpCallKSel2 (imm : ImmField)
  /-- JMP_CALL_X_SEL0, opcode byte 0x8d (R143). -/
  | jmpCallXSel0 (imm : ImmField)
  /-- JMP_CALL_X_SEL1, opcode byte 0x8d (R143). -/
  | jmpCallXSel1 (off : OffField)
  /-- JMP_CALL_X_SEL2, opcode byte 0x8d (R143). -/
  | jmpCallXSel2 (imm : ImmField)
  /-- JMP32_CALL_K_SEL0, opcode byte 0x86 (R143). -/
  | jmp32CallKSel0 (imm : ImmField)
  /-- JMP32_CALL_K_SEL1, opcode byte 0x86 (R143). -/
  | jmp32CallKSel1 (off : OffField)
  /-- JMP32_CALL_K_SEL2, opcode byte 0x86 (R143). -/
  | jmp32CallKSel2 (imm : ImmField)
  /-- JMP32_CALL_X_SEL0, opcode byte 0x8e (R143). -/
  | jmp32CallXSel0 (imm : ImmField)
  /-- JMP32_CALL_X_SEL1, opcode byte 0x8e (R143). -/
  | jmp32CallXSel1 (off : OffField)
  /-- JMP32_CALL_X_SEL2, opcode byte 0x8e (R143). -/
  | jmp32CallXSel2 (imm : ImmField)
  /-- JMP_EXIT_K, opcode byte 0x95 (R144). -/
  | jmpExitK
  /-- JMP_EXIT_X, opcode byte 0x9d (R144). -/
  | jmpExitX
  /-- JMP32_EXIT_K, opcode byte 0x96 (R144). -/
  | jmp32ExitK
  /-- JMP32_EXIT_X, opcode byte 0x9e (R144). -/
  | jmp32ExitX
  /-- JMP_JLT_K, opcode byte 0xa5 (R139). -/
  | jmpJltK (dst : RegField) (off : OffField) (imm : ImmField)
  /-- JMP_JLT_X, opcode byte 0xad (R139). -/
  | jmpJltX (dst : RegField) (src : RegField) (off : OffField)
  /-- JMP32_JLT_K, opcode byte 0xa6 (R139). -/
  | jmp32JltK (dst : RegField) (off : OffField) (imm : ImmField)
  /-- JMP32_JLT_X, opcode byte 0xae (R139). -/
  | jmp32JltX (dst : RegField) (src : RegField) (off : OffField)
  /-- JMP_JLE_K, opcode byte 0xb5 (R140). -/
  | jmpJleK (dst : RegField) (off : OffField) (imm : ImmField)
  /-- JMP_JLE_X, opcode byte 0xbd (R140). -/
  | jmpJleX (dst : RegField) (src : RegField) (off : OffField)
  /-- JMP32_JLE_K, opcode byte 0xb6 (R140). -/
  | jmp32JleK (dst : RegField) (off : OffField) (imm : ImmField)
  /-- JMP32_JLE_X, opcode byte 0xbe (R140). -/
  | jmp32JleX (dst : RegField) (src : RegField) (off : OffField)
  /-- JMP_JSLT_K, opcode byte 0xc5 (R141). -/
  | jmpJsltK (dst : RegField) (off : OffField) (imm : ImmField)
  /-- JMP_JSLT_X, opcode byte 0xcd (R141). -/
  | jmpJsltX (dst : RegField) (src : RegField) (off : OffField)
  /-- JMP32_JSLT_K, opcode byte 0xc6 (R141). -/
  | jmp32JsltK (dst : RegField) (off : OffField) (imm : ImmField)
  /-- JMP32_JSLT_X, opcode byte 0xce (R141). -/
  | jmp32JsltX (dst : RegField) (src : RegField) (off : OffField)
  /-- JMP_JSLE_K, opcode byte 0xd5 (R142). -/
  | jmpJsleK (dst : RegField) (off : OffField) (imm : ImmField)
  /-- JMP_JSLE_X, opcode byte 0xdd (R142). -/
  | jmpJsleX (dst : RegField) (src : RegField) (off : OffField)
  /-- JMP32_JSLE_K, opcode byte 0xd6 (R142). -/
  | jmp32JsleK (dst : RegField) (off : OffField) (imm : ImmField)
  /-- JMP32_JSLE_X, opcode byte 0xde (R142). -/
  | jmp32JsleX (dst : RegField) (src : RegField) (off : OffField)
  /-- LD_IMM_LITERAL64, opcode bytes 0x00-0x03, 0x08-0x0b, 0x10-0x13, 0x18-0x1b (R161). -/
  | ldImmLiteral64 (cls : LSClass) (size : Size) (dst : RegField) (imm : ImmField) (nextImm : ImmField)
  /-- LD_IMM_MAP_BY_FD, opcode bytes 0x00-0x03, 0x08-0x0b, 0x10-0x13, 0x18-0x1b (R162). -/
  | ldImmMapByFd (cls : LSClass) (size : Size) (dst : RegField) (imm : ImmField) (nextImm : ImmField)
  /-- LD_IMM_MAP_VAL_BY_FD, opcode bytes 0x00-0x03, 0x08-0x0b, 0x10-0x13, 0x18-0x1b (R163). -/
  | ldImmMapValByFd (cls : LSClass) (size : Size) (dst : RegField) (imm : ImmField) (nextImm : ImmField)
  /-- LD_IMM_VAR_ADDR, opcode bytes 0x00-0x03, 0x08-0x0b, 0x10-0x13, 0x18-0x1b (R164). -/
  | ldImmVarAddr (cls : LSClass) (size : Size) (dst : RegField) (imm : ImmField) (nextImm : ImmField)
  /-- LD_IMM_CODE_ADDR, opcode bytes 0x00-0x03, 0x08-0x0b, 0x10-0x13, 0x18-0x1b (R165). -/
  | ldImmCodeAddr (cls : LSClass) (size : Size) (dst : RegField) (imm : ImmField) (nextImm : ImmField)
  /-- LD_IMM_MAP_BY_IDX, opcode bytes 0x00-0x03, 0x08-0x0b, 0x10-0x13, 0x18-0x1b (R166). -/
  | ldImmMapByIdx (cls : LSClass) (size : Size) (dst : RegField) (imm : ImmField) (nextImm : ImmField)
  /-- LD_IMM_MAP_VAL_BY_IDX, opcode bytes 0x00-0x03, 0x08-0x0b, 0x10-0x13, 0x18-0x1b (R167). -/
  | ldImmMapValByIdx (cls : LSClass) (size : Size) (dst : RegField) (imm : ImmField) (nextImm : ImmField)
  /-- LD_ABS_W, opcode byte 0x20 (R169): unsupported LEGACY_ABS. -/
  | ldAbsW
  /-- LDX_ABS_W, opcode byte 0x21 (R169): unsupported LEGACY_ABS. -/
  | ldxAbsW
  /-- ST_ABS_W, opcode byte 0x22 (R169): unsupported LEGACY_ABS. -/
  | stAbsW
  /-- STX_ABS_W, opcode byte 0x23 (R169): unsupported LEGACY_ABS. -/
  | stxAbsW
  /-- LD_ABS_H, opcode byte 0x28 (R169): unsupported LEGACY_ABS. -/
  | ldAbsH
  /-- LDX_ABS_H, opcode byte 0x29 (R169): unsupported LEGACY_ABS. -/
  | ldxAbsH
  /-- ST_ABS_H, opcode byte 0x2a (R169): unsupported LEGACY_ABS. -/
  | stAbsH
  /-- STX_ABS_H, opcode byte 0x2b (R169): unsupported LEGACY_ABS. -/
  | stxAbsH
  /-- LD_ABS_B, opcode byte 0x30 (R169): unsupported LEGACY_ABS. -/
  | ldAbsB
  /-- LDX_ABS_B, opcode byte 0x31 (R169): unsupported LEGACY_ABS. -/
  | ldxAbsB
  /-- ST_ABS_B, opcode byte 0x32 (R169): unsupported LEGACY_ABS. -/
  | stAbsB
  /-- STX_ABS_B, opcode byte 0x33 (R169): unsupported LEGACY_ABS. -/
  | stxAbsB
  /-- LD_ABS_DW, opcode byte 0x38 (R169): unsupported LEGACY_ABS. -/
  | ldAbsDw
  /-- LDX_ABS_DW, opcode byte 0x39 (R169): unsupported LEGACY_ABS. -/
  | ldxAbsDw
  /-- ST_ABS_DW, opcode byte 0x3a (R169): unsupported LEGACY_ABS. -/
  | stAbsDw
  /-- STX_ABS_DW, opcode byte 0x3b (R169): unsupported LEGACY_ABS. -/
  | stxAbsDw
  /-- LD_IND_W, opcode byte 0x40 (R170): unsupported LEGACY_IND. -/
  | ldIndW
  /-- LDX_IND_W, opcode byte 0x41 (R170): unsupported LEGACY_IND. -/
  | ldxIndW
  /-- ST_IND_W, opcode byte 0x42 (R170): unsupported LEGACY_IND. -/
  | stIndW
  /-- STX_IND_W, opcode byte 0x43 (R170): unsupported LEGACY_IND. -/
  | stxIndW
  /-- LD_IND_H, opcode byte 0x48 (R170): unsupported LEGACY_IND. -/
  | ldIndH
  /-- LDX_IND_H, opcode byte 0x49 (R170): unsupported LEGACY_IND. -/
  | ldxIndH
  /-- ST_IND_H, opcode byte 0x4a (R170): unsupported LEGACY_IND. -/
  | stIndH
  /-- STX_IND_H, opcode byte 0x4b (R170): unsupported LEGACY_IND. -/
  | stxIndH
  /-- LD_IND_B, opcode byte 0x50 (R170): unsupported LEGACY_IND. -/
  | ldIndB
  /-- LDX_IND_B, opcode byte 0x51 (R170): unsupported LEGACY_IND. -/
  | ldxIndB
  /-- ST_IND_B, opcode byte 0x52 (R170): unsupported LEGACY_IND. -/
  | stIndB
  /-- STX_IND_B, opcode byte 0x53 (R170): unsupported LEGACY_IND. -/
  | stxIndB
  /-- LD_IND_DW, opcode byte 0x58 (R170): unsupported LEGACY_IND. -/
  | ldIndDw
  /-- LDX_IND_DW, opcode byte 0x59 (R170): unsupported LEGACY_IND. -/
  | ldxIndDw
  /-- ST_IND_DW, opcode byte 0x5a (R170): unsupported LEGACY_IND. -/
  | stIndDw
  /-- STX_IND_DW, opcode byte 0x5b (R170): unsupported LEGACY_IND. -/
  | stxIndDw
  /-- LDX_MEM_W, opcode byte 0x61 (R171). -/
  | ldxMemW (dst : RegField) (src : RegField) (off : OffField)
  /-- ST_MEM_W, opcode byte 0x62 (R172). -/
  | stMemW (dst : RegField) (off : OffField) (imm : ImmField)
  /-- STX_MEM_W, opcode byte 0x63 (R173). -/
  | stxMemW (dst : RegField) (src : RegField) (off : OffField)
  /-- LDX_MEM_H, opcode byte 0x69 (R171). -/
  | ldxMemH (dst : RegField) (src : RegField) (off : OffField)
  /-- ST_MEM_H, opcode byte 0x6a (R172). -/
  | stMemH (dst : RegField) (off : OffField) (imm : ImmField)
  /-- STX_MEM_H, opcode byte 0x6b (R173). -/
  | stxMemH (dst : RegField) (src : RegField) (off : OffField)
  /-- LDX_MEM_B, opcode byte 0x71 (R171). -/
  | ldxMemB (dst : RegField) (src : RegField) (off : OffField)
  /-- ST_MEM_B, opcode byte 0x72 (R172). -/
  | stMemB (dst : RegField) (off : OffField) (imm : ImmField)
  /-- STX_MEM_B, opcode byte 0x73 (R173). -/
  | stxMemB (dst : RegField) (src : RegField) (off : OffField)
  /-- LDX_MEM_DW, opcode byte 0x79 (R171). -/
  | ldxMemDw (dst : RegField) (src : RegField) (off : OffField)
  /-- ST_MEM_DW, opcode byte 0x7a (R172). -/
  | stMemDw (dst : RegField) (off : OffField) (imm : ImmField)
  /-- STX_MEM_DW, opcode byte 0x7b (R173). -/
  | stxMemDw (dst : RegField) (src : RegField) (off : OffField)
  /-- LDX_MEMSX_W, opcode byte 0x81 (R175). -/
  | ldxMemsxW (dst : RegField) (src : RegField) (off : OffField)
  /-- LDX_MEMSX_H, opcode byte 0x89 (R175). -/
  | ldxMemsxH (dst : RegField) (src : RegField) (off : OffField)
  /-- LDX_MEMSX_B, opcode byte 0x91 (R175). -/
  | ldxMemsxB (dst : RegField) (src : RegField) (off : OffField)
  /-- LDX_MEMSX_DW, opcode byte 0x99 (R175). -/
  | ldxMemsxDw (dst : RegField) (src : RegField) (off : OffField)
  /-- STX_ATOMIC_W_ADD, opcode byte 0xc3 (R178). -/
  | stxAtomicWAdd (dst : RegField) (src : RegField) (off : OffField)
  /-- STX_ATOMIC_W_OR, opcode byte 0xc3 (R179). -/
  | stxAtomicWOr (dst : RegField) (src : RegField) (off : OffField)
  /-- STX_ATOMIC_W_AND, opcode byte 0xc3 (R180). -/
  | stxAtomicWAnd (dst : RegField) (src : RegField) (off : OffField)
  /-- STX_ATOMIC_W_XOR, opcode byte 0xc3 (R181). -/
  | stxAtomicWXor (dst : RegField) (src : RegField) (off : OffField)
  /-- STX_ATOMIC_W_FETCH_ADD, opcode byte 0xc3 (R182): unsupported ATOMIC_FETCH. -/
  | stxAtomicWFetchAdd
  /-- STX_ATOMIC_W_FETCH_OR, opcode byte 0xc3 (R182): unsupported ATOMIC_FETCH. -/
  | stxAtomicWFetchOr
  /-- STX_ATOMIC_W_FETCH_AND, opcode byte 0xc3 (R182): unsupported ATOMIC_FETCH. -/
  | stxAtomicWFetchAnd
  /-- STX_ATOMIC_W_FETCH_XOR, opcode byte 0xc3 (R182): unsupported ATOMIC_FETCH. -/
  | stxAtomicWFetchXor
  /-- STX_ATOMIC_W_XCHG, opcode byte 0xc3 (R183): unsupported ATOMIC_XCHG. -/
  | stxAtomicWXchg (fetch : Bool)
  /-- STX_ATOMIC_W_CMPXCHG, opcode byte 0xc3 (R184): unsupported ATOMIC_CMPXCHG. -/
  | stxAtomicWCmpxchg (fetch : Bool)
  /-- STX_ATOMIC_DW_ADD, opcode byte 0xdb (R178). -/
  | stxAtomicDwAdd (dst : RegField) (src : RegField) (off : OffField)
  /-- STX_ATOMIC_DW_OR, opcode byte 0xdb (R179). -/
  | stxAtomicDwOr (dst : RegField) (src : RegField) (off : OffField)
  /-- STX_ATOMIC_DW_AND, opcode byte 0xdb (R180). -/
  | stxAtomicDwAnd (dst : RegField) (src : RegField) (off : OffField)
  /-- STX_ATOMIC_DW_XOR, opcode byte 0xdb (R181). -/
  | stxAtomicDwXor (dst : RegField) (src : RegField) (off : OffField)
  /-- STX_ATOMIC_DW_FETCH_ADD, opcode byte 0xdb (R182): unsupported ATOMIC_FETCH. -/
  | stxAtomicDwFetchAdd
  /-- STX_ATOMIC_DW_FETCH_OR, opcode byte 0xdb (R182): unsupported ATOMIC_FETCH. -/
  | stxAtomicDwFetchOr
  /-- STX_ATOMIC_DW_FETCH_AND, opcode byte 0xdb (R182): unsupported ATOMIC_FETCH. -/
  | stxAtomicDwFetchAnd
  /-- STX_ATOMIC_DW_FETCH_XOR, opcode byte 0xdb (R182): unsupported ATOMIC_FETCH. -/
  | stxAtomicDwFetchXor
  /-- STX_ATOMIC_DW_XCHG, opcode byte 0xdb (R183): unsupported ATOMIC_XCHG. -/
  | stxAtomicDwXchg (fetch : Bool)
  /-- STX_ATOMIC_DW_CMPXCHG, opcode byte 0xdb (R184): unsupported ATOMIC_CMPXCHG. -/
  | stxAtomicDwCmpxchg (fetch : Bool)
  /-- ALU_CODE_E_K, opcode byte 0xe4 (R116): invalid ARITH_CODE. -/
  | aluCodeEK
  /-- ALU_CODE_E_X, opcode byte 0xec (R116): invalid ARITH_CODE. -/
  | aluCodeEX
  /-- ALU64_CODE_E_K, opcode byte 0xe7 (R116): invalid ARITH_CODE. -/
  | alu64CodeEK
  /-- ALU64_CODE_E_X, opcode byte 0xef (R116): invalid ARITH_CODE. -/
  | alu64CodeEX
  /-- ALU_CODE_F_K, opcode byte 0xf4 (R116): invalid ARITH_CODE. -/
  | aluCodeFK
  /-- ALU_CODE_F_X, opcode byte 0xfc (R116): invalid ARITH_CODE. -/
  | aluCodeFX
  /-- ALU64_CODE_F_K, opcode byte 0xf7 (R116): invalid ARITH_CODE. -/
  | alu64CodeFK
  /-- ALU64_CODE_F_X, opcode byte 0xff (R116): invalid ARITH_CODE. -/
  | alu64CodeFX
  /-- JMP_CODE_E_K, opcode byte 0xe5 (R145): invalid JUMP_CODE. -/
  | jmpCodeEK
  /-- JMP_CODE_E_X, opcode byte 0xed (R145): invalid JUMP_CODE. -/
  | jmpCodeEX
  /-- JMP32_CODE_E_K, opcode byte 0xe6 (R145): invalid JUMP_CODE. -/
  | jmp32CodeEK
  /-- JMP32_CODE_E_X, opcode byte 0xee (R145): invalid JUMP_CODE. -/
  | jmp32CodeEX
  /-- JMP_CODE_F_K, opcode byte 0xf5 (R145): invalid JUMP_CODE. -/
  | jmpCodeFK
  /-- JMP_CODE_F_X, opcode byte 0xfd (R145): invalid JUMP_CODE. -/
  | jmpCodeFX
  /-- JMP32_CODE_F_K, opcode byte 0xf6 (R145): invalid JUMP_CODE. -/
  | jmp32CodeFK
  /-- JMP32_CODE_F_X, opcode byte 0xfe (R145): invalid JUMP_CODE. -/
  | jmp32CodeFX
  /-- JMP_CALL_K_SEL_OTHER, opcode byte 0x85 (R143): invalid CALL_SELECTOR. -/
  | jmpCallKSelOther (src : RegField)
  /-- JMP_CALL_X_SEL_OTHER, opcode byte 0x8d (R143): invalid CALL_SELECTOR. -/
  | jmpCallXSelOther (src : RegField)
  /-- JMP32_CALL_K_SEL_OTHER, opcode byte 0x86 (R143): invalid CALL_SELECTOR. -/
  | jmp32CallKSelOther (src : RegField)
  /-- JMP32_CALL_X_SEL_OTHER, opcode byte 0x8e (R143): invalid CALL_SELECTOR. -/
  | jmp32CallXSelOther (src : RegField)
  /-- LD_IMM_SEL_OTHER, opcode bytes 0x00-0x03, 0x08-0x0b, 0x10-0x13, 0x18-0x1b (R168): invalid IMM_SELECTOR. -/
  | ldImmSelOther (cls : LSClass) (size : Size) (src : RegField) (nextImm : ImmField)
  /-- LD_MEM_ANY, opcode bytes 0x60, 0x68, 0x70, 0x78 (R174): invalid MEM_CLASS. -/
  | ldMemAny (size : Size)
  /-- NOTLDX_MEMSX_ANY, opcode bytes 0x80, 0x82, 0x83, 0x88, 0x8a, 0x8b, 0x90, 0x92, 0x93, 0x98, 0x9a, 0x9b (R176): invalid MEMSX_CLASS. -/
  | notldxMemsxAny (cls : LSClass) (size : Size)
  /-- ANY_ATOMIC_H, opcode bytes 0xc8-0xcb (R177): invalid ATOMIC_SIZE. -/
  | anyAtomicH (cls : LSClass)
  /-- ANY_ATOMIC_B, opcode bytes 0xd0-0xd3 (R177): invalid ATOMIC_SIZE. -/
  | anyAtomicB (cls : LSClass)
  /-- STX_ATOMIC_W_OP_OTHER, opcode byte 0xc3 (R185): invalid ATOMIC_OP. -/
  | stxAtomicWOpOther (imm : ImmField)
  /-- STX_ATOMIC_DW_OP_OTHER, opcode byte 0xdb (R185): invalid ATOMIC_OP. -/
  | stxAtomicDwOpOther (imm : ImmField)
  /-- NOTSTX_ATOMIC_ANY, opcode bytes 0xc0, 0xc1, 0xc2, 0xd8, 0xd9, 0xda (R177): invalid ATOMIC_CLASS. -/
  | notstxAtomicAny (cls : LSClass) (size : Size)
  /-- ANY_MODE5, opcode bytes 0xa0-0xa3, 0xa8-0xab, 0xb0-0xb3, 0xb8-0xbb (R186): invalid LS_MODE. -/
  | anyMode5 (cls : LSClass) (size : Size)
  /-- ANY_MODE7, opcode bytes 0xe0-0xe3, 0xe8-0xeb, 0xf0-0xf3, 0xf8-0xfb (R186): invalid LS_MODE. -/
  | anyMode7 (cls : LSClass) (size : Size)
deriving DecidableEq, Repr

end Sys2Proof
end

