-- ==== Sys2Proof/WellFormed.lean ====
section
/-! DEFINITION. Which terms of `Instr` stand for words of their own row. Rows are tried in the table's order and the
first match decides (R75), so a general row's operands exclude the values an earlier row takes. -/

namespace Sys2Proof

/-- The twelve immediates that name an atomic operation (R178 to R184). -/
def namesAtomicOp (imm : ImmField) : Bool :=
  [0x00, 0x40, 0x50, 0xa0, 0x01, 0x41, 0x51, 0xa1, 0xe0, 0xe1, 0xf0, 0xf1].contains imm

/-- The operands a row's encoding admits: a general DIV or MOD row has `src` other than 0 (R105, R111), a CALL row of no
form has selector 3 to 15 (R143), an immediate load of no form has selector 7 to 15 (R168), MEMSX of a wrong class is not
LDX (R176), ATOMIC of a wrong class is W or DW and not STX (R177), and an atomic word of no operation has an immediate
outside the twelve (R185). -/
def Instr.wellFormed : Instr → Bool
  | .aluAddK _ _ => true
  | .aluAddX _ _ => true
  | .alu64AddK _ _ => true
  | .alu64AddX _ _ => true
  | .aluSubK _ _ => true
  | .aluSubX _ _ => true
  | .alu64SubK _ _ => true
  | .alu64SubX _ _ => true
  | .aluMulK _ _ => true
  | .aluMulX _ _ => true
  | .alu64MulK _ _ => true
  | .alu64MulX _ _ => true
  | .aluDivKSrc0 _ => true
  | .aluDivK _ src _ => src != 0
  | .aluDivXSrc0 _ => true
  | .aluDivX _ src => src != 0
  | .alu64DivKSrc0 _ => true
  | .alu64DivK _ src _ => src != 0
  | .alu64DivXSrc0 _ => true
  | .alu64DivX _ src => src != 0
  | .aluOrK _ _ => true
  | .aluOrX _ _ => true
  | .alu64OrK _ _ => true
  | .alu64OrX _ _ => true
  | .aluAndK _ _ => true
  | .aluAndX _ _ => true
  | .alu64AndK _ _ => true
  | .alu64AndX _ _ => true
  | .aluLshK _ _ => true
  | .aluLshX _ _ => true
  | .alu64LshK _ _ => true
  | .alu64LshX _ _ => true
  | .aluRshK _ _ => true
  | .aluRshX _ _ => true
  | .alu64RshK _ _ => true
  | .alu64RshX _ _ => true
  | .aluNegK _ _ => true
  | .aluNegX _ _ => true
  | .alu64NegK _ _ => true
  | .alu64NegX _ _ => true
  | .aluModKSrc0 _ => true
  | .aluModK _ src _ => src != 0
  | .aluModXSrc0 _ => true
  | .aluModX _ src => src != 0
  | .alu64ModKSrc0 _ => true
  | .alu64ModK _ src _ => src != 0
  | .alu64ModXSrc0 _ => true
  | .alu64ModX _ src => src != 0
  | .aluXorK _ _ => true
  | .aluXorX _ _ => true
  | .alu64XorK _ _ => true
  | .alu64XorX _ _ => true
  | .aluMovK _ _ => true
  | .aluMovX _ _ => true
  | .alu64MovK _ _ => true
  | .alu64MovX _ _ => true
  | .aluArshK _ _ => true
  | .aluArshX _ _ => true
  | .alu64ArshK _ _ => true
  | .alu64ArshX _ _ => true
  | .aluEndK => true
  | .aluEndX => true
  | .alu64EndK => true
  | .alu64EndX => true
  | .jmpJaK _ => true
  | .jmpJaX _ => true
  | .jmp32JaK _ => true
  | .jmp32JaX _ => true
  | .jmpJeqK _ _ _ => true
  | .jmpJeqX _ _ _ => true
  | .jmp32JeqK _ _ _ => true
  | .jmp32JeqX _ _ _ => true
  | .jmpJgtK _ _ _ => true
  | .jmpJgtX _ _ _ => true
  | .jmp32JgtK _ _ _ => true
  | .jmp32JgtX _ _ _ => true
  | .jmpJgeK _ _ _ => true
  | .jmpJgeX _ _ _ => true
  | .jmp32JgeK _ _ _ => true
  | .jmp32JgeX _ _ _ => true
  | .jmpJsetK _ _ _ => true
  | .jmpJsetX _ _ _ => true
  | .jmp32JsetK _ _ _ => true
  | .jmp32JsetX _ _ _ => true
  | .jmpJneK _ _ _ => true
  | .jmpJneX _ _ _ => true
  | .jmp32JneK _ _ _ => true
  | .jmp32JneX _ _ _ => true
  | .jmpJsgtK _ _ _ => true
  | .jmpJsgtX _ _ _ => true
  | .jmp32JsgtK _ _ _ => true
  | .jmp32JsgtX _ _ _ => true
  | .jmpJsgeK _ _ _ => true
  | .jmpJsgeX _ _ _ => true
  | .jmp32JsgeK _ _ _ => true
  | .jmp32JsgeX _ _ _ => true
  | .jmpCallKSel0 _ => true
  | .jmpCallKSel1 _ => true
  | .jmpCallKSel2 _ => true
  | .jmpCallXSel0 _ => true
  | .jmpCallXSel1 _ => true
  | .jmpCallXSel2 _ => true
  | .jmp32CallKSel0 _ => true
  | .jmp32CallKSel1 _ => true
  | .jmp32CallKSel2 _ => true
  | .jmp32CallXSel0 _ => true
  | .jmp32CallXSel1 _ => true
  | .jmp32CallXSel2 _ => true
  | .jmpExitK => true
  | .jmpExitX => true
  | .jmp32ExitK => true
  | .jmp32ExitX => true
  | .jmpJltK _ _ _ => true
  | .jmpJltX _ _ _ => true
  | .jmp32JltK _ _ _ => true
  | .jmp32JltX _ _ _ => true
  | .jmpJleK _ _ _ => true
  | .jmpJleX _ _ _ => true
  | .jmp32JleK _ _ _ => true
  | .jmp32JleX _ _ _ => true
  | .jmpJsltK _ _ _ => true
  | .jmpJsltX _ _ _ => true
  | .jmp32JsltK _ _ _ => true
  | .jmp32JsltX _ _ _ => true
  | .jmpJsleK _ _ _ => true
  | .jmpJsleX _ _ _ => true
  | .jmp32JsleK _ _ _ => true
  | .jmp32JsleX _ _ _ => true
  | .ldImmLiteral64 _ _ _ _ _ => true
  | .ldImmMapByFd _ _ _ _ _ => true
  | .ldImmMapValByFd _ _ _ _ _ => true
  | .ldImmVarAddr _ _ _ _ _ => true
  | .ldImmCodeAddr _ _ _ _ _ => true
  | .ldImmMapByIdx _ _ _ _ _ => true
  | .ldImmMapValByIdx _ _ _ _ _ => true
  | .ldAbsW => true
  | .ldxAbsW => true
  | .stAbsW => true
  | .stxAbsW => true
  | .ldAbsH => true
  | .ldxAbsH => true
  | .stAbsH => true
  | .stxAbsH => true
  | .ldAbsB => true
  | .ldxAbsB => true
  | .stAbsB => true
  | .stxAbsB => true
  | .ldAbsDw => true
  | .ldxAbsDw => true
  | .stAbsDw => true
  | .stxAbsDw => true
  | .ldIndW => true
  | .ldxIndW => true
  | .stIndW => true
  | .stxIndW => true
  | .ldIndH => true
  | .ldxIndH => true
  | .stIndH => true
  | .stxIndH => true
  | .ldIndB => true
  | .ldxIndB => true
  | .stIndB => true
  | .stxIndB => true
  | .ldIndDw => true
  | .ldxIndDw => true
  | .stIndDw => true
  | .stxIndDw => true
  | .ldxMemW _ _ _ => true
  | .stMemW _ _ _ => true
  | .stxMemW _ _ _ => true
  | .ldxMemH _ _ _ => true
  | .stMemH _ _ _ => true
  | .stxMemH _ _ _ => true
  | .ldxMemB _ _ _ => true
  | .stMemB _ _ _ => true
  | .stxMemB _ _ _ => true
  | .ldxMemDw _ _ _ => true
  | .stMemDw _ _ _ => true
  | .stxMemDw _ _ _ => true
  | .ldxMemsxW _ _ _ => true
  | .ldxMemsxH _ _ _ => true
  | .ldxMemsxB _ _ _ => true
  | .ldxMemsxDw _ _ _ => true
  | .stxAtomicWAdd _ _ _ => true
  | .stxAtomicWOr _ _ _ => true
  | .stxAtomicWAnd _ _ _ => true
  | .stxAtomicWXor _ _ _ => true
  | .stxAtomicWFetchAdd => true
  | .stxAtomicWFetchOr => true
  | .stxAtomicWFetchAnd => true
  | .stxAtomicWFetchXor => true
  | .stxAtomicWXchg _ => true
  | .stxAtomicWCmpxchg _ => true
  | .stxAtomicDwAdd _ _ _ => true
  | .stxAtomicDwOr _ _ _ => true
  | .stxAtomicDwAnd _ _ _ => true
  | .stxAtomicDwXor _ _ _ => true
  | .stxAtomicDwFetchAdd => true
  | .stxAtomicDwFetchOr => true
  | .stxAtomicDwFetchAnd => true
  | .stxAtomicDwFetchXor => true
  | .stxAtomicDwXchg _ => true
  | .stxAtomicDwCmpxchg _ => true
  | .aluCodeEK => true
  | .aluCodeEX => true
  | .alu64CodeEK => true
  | .alu64CodeEX => true
  | .aluCodeFK => true
  | .aluCodeFX => true
  | .alu64CodeFK => true
  | .alu64CodeFX => true
  | .jmpCodeEK => true
  | .jmpCodeEX => true
  | .jmp32CodeEK => true
  | .jmp32CodeEX => true
  | .jmpCodeFK => true
  | .jmpCodeFX => true
  | .jmp32CodeFK => true
  | .jmp32CodeFX => true
  | .jmpCallKSelOther src => decide (2 < src.toNat)
  | .jmpCallXSelOther src => decide (2 < src.toNat)
  | .jmp32CallKSelOther src => decide (2 < src.toNat)
  | .jmp32CallXSelOther src => decide (2 < src.toNat)
  | .ldImmSelOther _ _ src _ => decide (6 < src.toNat)
  | .ldMemAny _ => true
  | .notldxMemsxAny cls _ => cls != .ldx
  | .anyAtomicH _ => true
  | .anyAtomicB _ => true
  | .stxAtomicWOpOther imm => !namesAtomicOp imm
  | .stxAtomicDwOpOther imm => !namesAtomicOp imm
  | .notstxAtomicAny cls size => cls != .stx && (size == .w || size == .dw)
  | .anyMode5 _ _ => true
  | .anyMode7 _ _ => true

end Sys2Proof
end

