-- ==== Sys2Proof/Decode.lean ====
section
/-! DEFINITION. The decoder, total on any bytes, and the encoder. The decoder classifies the opcode byte once
(30_encoding.md section 3) and dispatches on the typed opcode as the family files do (R100, R130, R160); the encoder is
written from the opcode bytes of the family files and the word layout of R50, with every field a row does not read at 0. -/

namespace Sys2Proof

/-- Why a byte string does not begin with an instruction. -/
inductive DecodeError
  /-- Fewer than eight bytes are left: not a whole word (R41). -/
  | truncatedWord
  /-- The first word is an extended head and no whole word follows it (R37). -/
  | missingExtensionWord
deriving DecidableEq, Repr

/-! ## The decoder -/

/-- The arithmetic opcodes (R66, R100, R102 to R116). DIV and MOD test the `src` FIELD, whatever Source is (R105, R111). -/
def decodeArith (c : ArithClass) (sel : Source) (k : ArithCode) (w : Word) : Instr :=
  match c, sel, k with
  | .alu, .k, .add => .aluAddK (dstOf w) (immOf w)
  | .alu, .k, .sub => .aluSubK (dstOf w) (immOf w)
  | .alu, .k, .mul => .aluMulK (dstOf w) (immOf w)
  | .alu, .k, .div => if srcOf w = 0 then .aluDivKSrc0 (dstOf w) else .aluDivK (dstOf w) (srcOf w) (immOf w)
  | .alu, .k, .or => .aluOrK (dstOf w) (immOf w)
  | .alu, .k, .and => .aluAndK (dstOf w) (immOf w)
  | .alu, .k, .lsh => .aluLshK (dstOf w) (immOf w)
  | .alu, .k, .rsh => .aluRshK (dstOf w) (immOf w)
  | .alu, .k, .neg => .aluNegK (dstOf w) (srcOf w)
  | .alu, .k, .mod => if srcOf w = 0 then .aluModKSrc0 (dstOf w) else .aluModK (dstOf w) (srcOf w) (immOf w)
  | .alu, .k, .xor => .aluXorK (dstOf w) (immOf w)
  | .alu, .k, .mov => .aluMovK (dstOf w) (immOf w)
  | .alu, .k, .arsh => .aluArshK (dstOf w) (immOf w)
  | .alu, .k, .end_ => .aluEndK
  | .alu, .k, .codeE => .aluCodeEK
  | .alu, .k, .codeF => .aluCodeFK
  | .alu, .x, .add => .aluAddX (dstOf w) (srcOf w)
  | .alu, .x, .sub => .aluSubX (dstOf w) (srcOf w)
  | .alu, .x, .mul => .aluMulX (dstOf w) (srcOf w)
  | .alu, .x, .div => if srcOf w = 0 then .aluDivXSrc0 (dstOf w) else .aluDivX (dstOf w) (srcOf w)
  | .alu, .x, .or => .aluOrX (dstOf w) (srcOf w)
  | .alu, .x, .and => .aluAndX (dstOf w) (srcOf w)
  | .alu, .x, .lsh => .aluLshX (dstOf w) (srcOf w)
  | .alu, .x, .rsh => .aluRshX (dstOf w) (srcOf w)
  | .alu, .x, .neg => .aluNegX (dstOf w) (srcOf w)
  | .alu, .x, .mod => if srcOf w = 0 then .aluModXSrc0 (dstOf w) else .aluModX (dstOf w) (srcOf w)
  | .alu, .x, .xor => .aluXorX (dstOf w) (srcOf w)
  | .alu, .x, .mov => .aluMovX (dstOf w) (srcOf w)
  | .alu, .x, .arsh => .aluArshX (dstOf w) (srcOf w)
  | .alu, .x, .end_ => .aluEndX
  | .alu, .x, .codeE => .aluCodeEX
  | .alu, .x, .codeF => .aluCodeFX
  | .alu64, .k, .add => .alu64AddK (dstOf w) (immOf w)
  | .alu64, .k, .sub => .alu64SubK (dstOf w) (immOf w)
  | .alu64, .k, .mul => .alu64MulK (dstOf w) (immOf w)
  | .alu64, .k, .div => if srcOf w = 0 then .alu64DivKSrc0 (dstOf w) else .alu64DivK (dstOf w) (srcOf w) (immOf w)
  | .alu64, .k, .or => .alu64OrK (dstOf w) (immOf w)
  | .alu64, .k, .and => .alu64AndK (dstOf w) (immOf w)
  | .alu64, .k, .lsh => .alu64LshK (dstOf w) (immOf w)
  | .alu64, .k, .rsh => .alu64RshK (dstOf w) (immOf w)
  | .alu64, .k, .neg => .alu64NegK (dstOf w) (srcOf w)
  | .alu64, .k, .mod => if srcOf w = 0 then .alu64ModKSrc0 (dstOf w) else .alu64ModK (dstOf w) (srcOf w) (immOf w)
  | .alu64, .k, .xor => .alu64XorK (dstOf w) (immOf w)
  | .alu64, .k, .mov => .alu64MovK (dstOf w) (immOf w)
  | .alu64, .k, .arsh => .alu64ArshK (dstOf w) (immOf w)
  | .alu64, .k, .end_ => .alu64EndK
  | .alu64, .k, .codeE => .alu64CodeEK
  | .alu64, .k, .codeF => .alu64CodeFK
  | .alu64, .x, .add => .alu64AddX (dstOf w) (srcOf w)
  | .alu64, .x, .sub => .alu64SubX (dstOf w) (srcOf w)
  | .alu64, .x, .mul => .alu64MulX (dstOf w) (srcOf w)
  | .alu64, .x, .div => if srcOf w = 0 then .alu64DivXSrc0 (dstOf w) else .alu64DivX (dstOf w) (srcOf w)
  | .alu64, .x, .or => .alu64OrX (dstOf w) (srcOf w)
  | .alu64, .x, .and => .alu64AndX (dstOf w) (srcOf w)
  | .alu64, .x, .lsh => .alu64LshX (dstOf w) (srcOf w)
  | .alu64, .x, .rsh => .alu64RshX (dstOf w) (srcOf w)
  | .alu64, .x, .neg => .alu64NegX (dstOf w) (srcOf w)
  | .alu64, .x, .mod => if srcOf w = 0 then .alu64ModXSrc0 (dstOf w) else .alu64ModX (dstOf w) (srcOf w)
  | .alu64, .x, .xor => .alu64XorX (dstOf w) (srcOf w)
  | .alu64, .x, .mov => .alu64MovX (dstOf w) (srcOf w)
  | .alu64, .x, .arsh => .alu64ArshX (dstOf w) (srcOf w)
  | .alu64, .x, .end_ => .alu64EndX
  | .alu64, .x, .codeE => .alu64CodeEX
  | .alu64, .x, .codeF => .alu64CodeFX

/-- The jump opcodes (R67, R130 to R145). CALL selects by the `src` field and ignores opcode bit 3 (R143). -/
def decodeJump (c : JumpClass) (sel : Source) (k : JumpCode) (w : Word) : Instr :=
  match c, sel, k with
  | .jmp, .k, .ja => .jmpJaK (offOf w)
  | .jmp, .k, .jeq => .jmpJeqK (dstOf w) (offOf w) (immOf w)
  | .jmp, .k, .jgt => .jmpJgtK (dstOf w) (offOf w) (immOf w)
  | .jmp, .k, .jge => .jmpJgeK (dstOf w) (offOf w) (immOf w)
  | .jmp, .k, .jset => .jmpJsetK (dstOf w) (offOf w) (immOf w)
  | .jmp, .k, .jne => .jmpJneK (dstOf w) (offOf w) (immOf w)
  | .jmp, .k, .jsgt => .jmpJsgtK (dstOf w) (offOf w) (immOf w)
  | .jmp, .k, .jsge => .jmpJsgeK (dstOf w) (offOf w) (immOf w)
  | .jmp, .k, .call => if srcOf w = 0 then .jmpCallKSel0 (immOf w) else if srcOf w = 1 then .jmpCallKSel1 (offOf w) else if srcOf w = 2 then .jmpCallKSel2 (immOf w) else .jmpCallKSelOther (srcOf w)
  | .jmp, .k, .exit => .jmpExitK
  | .jmp, .k, .jlt => .jmpJltK (dstOf w) (offOf w) (immOf w)
  | .jmp, .k, .jle => .jmpJleK (dstOf w) (offOf w) (immOf w)
  | .jmp, .k, .jslt => .jmpJsltK (dstOf w) (offOf w) (immOf w)
  | .jmp, .k, .jsle => .jmpJsleK (dstOf w) (offOf w) (immOf w)
  | .jmp, .k, .codeE => .jmpCodeEK
  | .jmp, .k, .codeF => .jmpCodeFK
  | .jmp, .x, .ja => .jmpJaX (offOf w)
  | .jmp, .x, .jeq => .jmpJeqX (dstOf w) (srcOf w) (offOf w)
  | .jmp, .x, .jgt => .jmpJgtX (dstOf w) (srcOf w) (offOf w)
  | .jmp, .x, .jge => .jmpJgeX (dstOf w) (srcOf w) (offOf w)
  | .jmp, .x, .jset => .jmpJsetX (dstOf w) (srcOf w) (offOf w)
  | .jmp, .x, .jne => .jmpJneX (dstOf w) (srcOf w) (offOf w)
  | .jmp, .x, .jsgt => .jmpJsgtX (dstOf w) (srcOf w) (offOf w)
  | .jmp, .x, .jsge => .jmpJsgeX (dstOf w) (srcOf w) (offOf w)
  | .jmp, .x, .call => if srcOf w = 0 then .jmpCallXSel0 (immOf w) else if srcOf w = 1 then .jmpCallXSel1 (offOf w) else if srcOf w = 2 then .jmpCallXSel2 (immOf w) else .jmpCallXSelOther (srcOf w)
  | .jmp, .x, .exit => .jmpExitX
  | .jmp, .x, .jlt => .jmpJltX (dstOf w) (srcOf w) (offOf w)
  | .jmp, .x, .jle => .jmpJleX (dstOf w) (srcOf w) (offOf w)
  | .jmp, .x, .jslt => .jmpJsltX (dstOf w) (srcOf w) (offOf w)
  | .jmp, .x, .jsle => .jmpJsleX (dstOf w) (srcOf w) (offOf w)
  | .jmp, .x, .codeE => .jmpCodeEX
  | .jmp, .x, .codeF => .jmpCodeFX
  | .jmp32, .k, .ja => .jmp32JaK (offOf w)
  | .jmp32, .k, .jeq => .jmp32JeqK (dstOf w) (offOf w) (immOf w)
  | .jmp32, .k, .jgt => .jmp32JgtK (dstOf w) (offOf w) (immOf w)
  | .jmp32, .k, .jge => .jmp32JgeK (dstOf w) (offOf w) (immOf w)
  | .jmp32, .k, .jset => .jmp32JsetK (dstOf w) (offOf w) (immOf w)
  | .jmp32, .k, .jne => .jmp32JneK (dstOf w) (offOf w) (immOf w)
  | .jmp32, .k, .jsgt => .jmp32JsgtK (dstOf w) (offOf w) (immOf w)
  | .jmp32, .k, .jsge => .jmp32JsgeK (dstOf w) (offOf w) (immOf w)
  | .jmp32, .k, .call => if srcOf w = 0 then .jmp32CallKSel0 (immOf w) else if srcOf w = 1 then .jmp32CallKSel1 (offOf w) else if srcOf w = 2 then .jmp32CallKSel2 (immOf w) else .jmp32CallKSelOther (srcOf w)
  | .jmp32, .k, .exit => .jmp32ExitK
  | .jmp32, .k, .jlt => .jmp32JltK (dstOf w) (offOf w) (immOf w)
  | .jmp32, .k, .jle => .jmp32JleK (dstOf w) (offOf w) (immOf w)
  | .jmp32, .k, .jslt => .jmp32JsltK (dstOf w) (offOf w) (immOf w)
  | .jmp32, .k, .jsle => .jmp32JsleK (dstOf w) (offOf w) (immOf w)
  | .jmp32, .k, .codeE => .jmp32CodeEK
  | .jmp32, .k, .codeF => .jmp32CodeFK
  | .jmp32, .x, .ja => .jmp32JaX (offOf w)
  | .jmp32, .x, .jeq => .jmp32JeqX (dstOf w) (srcOf w) (offOf w)
  | .jmp32, .x, .jgt => .jmp32JgtX (dstOf w) (srcOf w) (offOf w)
  | .jmp32, .x, .jge => .jmp32JgeX (dstOf w) (srcOf w) (offOf w)
  | .jmp32, .x, .jset => .jmp32JsetX (dstOf w) (srcOf w) (offOf w)
  | .jmp32, .x, .jne => .jmp32JneX (dstOf w) (srcOf w) (offOf w)
  | .jmp32, .x, .jsgt => .jmp32JsgtX (dstOf w) (srcOf w) (offOf w)
  | .jmp32, .x, .jsge => .jmp32JsgeX (dstOf w) (srcOf w) (offOf w)
  | .jmp32, .x, .call => if srcOf w = 0 then .jmp32CallXSel0 (immOf w) else if srcOf w = 1 then .jmp32CallXSel1 (offOf w) else if srcOf w = 2 then .jmp32CallXSel2 (immOf w) else .jmp32CallXSelOther (srcOf w)
  | .jmp32, .x, .exit => .jmp32ExitX
  | .jmp32, .x, .jlt => .jmp32JltX (dstOf w) (srcOf w) (offOf w)
  | .jmp32, .x, .jle => .jmp32JleX (dstOf w) (srcOf w) (offOf w)
  | .jmp32, .x, .jslt => .jmp32JsltX (dstOf w) (srcOf w) (offOf w)
  | .jmp32, .x, .jsle => .jmp32JsleX (dstOf w) (srcOf w) (offOf w)
  | .jmp32, .x, .codeE => .jmp32CodeEX
  | .jmp32, .x, .codeF => .jmp32CodeFX

/-- Mode IMM, by the selector in the `src` field (R160 to R168); class and size are not looked at. -/
def decodeImm (c : LSClass) (z : Size) (w e : Word) : Instr :=
  match (srcOf w).toNat with
  | 0 => .ldImmLiteral64 c z (dstOf w) (immOf w) (immOf e)
  | 1 => .ldImmMapByFd c z (dstOf w) (immOf w) (immOf e)
  | 2 => .ldImmMapValByFd c z (dstOf w) (immOf w) (immOf e)
  | 3 => .ldImmVarAddr c z (dstOf w) (immOf w) (immOf e)
  | 4 => .ldImmCodeAddr c z (dstOf w) (immOf w) (immOf e)
  | 5 => .ldImmMapByIdx c z (dstOf w) (immOf w) (immOf e)
  | 6 => .ldImmMapValByIdx c z (dstOf w) (immOf w) (immOf e)
  | _ => .ldImmSelOther c z (srcOf w) (immOf e)

/-- An atomic word of class STX and size W, by its immediate (R177, decision D7): a bit outside 0xf1 first, then XCHG and
CMPXCHG whatever the fetch bit, then the fetch bit. -/
def decodeAtomicW (w : Word) : Instr :=
  if immOf w &&& 0xffffff0e ≠ 0 then .stxAtomicWOpOther (immOf w)
  else
    match (immOf w &&& 0xf0).toNat with
    | 0xe0 => .stxAtomicWXchg ((immOf w).getLsbD 0)
    | 0xf0 => .stxAtomicWCmpxchg ((immOf w).getLsbD 0)
    | 0x00 => if (immOf w).getLsbD 0 then .stxAtomicWFetchAdd else .stxAtomicWAdd (dstOf w) (srcOf w) (offOf w)
    | 0x40 => if (immOf w).getLsbD 0 then .stxAtomicWFetchOr else .stxAtomicWOr (dstOf w) (srcOf w) (offOf w)
    | 0x50 => if (immOf w).getLsbD 0 then .stxAtomicWFetchAnd else .stxAtomicWAnd (dstOf w) (srcOf w) (offOf w)
    | 0xa0 => if (immOf w).getLsbD 0 then .stxAtomicWFetchXor else .stxAtomicWXor (dstOf w) (srcOf w) (offOf w)
    | _ => .stxAtomicWOpOther (immOf w)

/-- An atomic word of class STX and size DW, by its immediate (R177, decision D7): a bit outside 0xf1 first, then XCHG and
CMPXCHG whatever the fetch bit, then the fetch bit. -/
def decodeAtomicDw (w : Word) : Instr :=
  if immOf w &&& 0xffffff0e ≠ 0 then .stxAtomicDwOpOther (immOf w)
  else
    match (immOf w &&& 0xf0).toNat with
    | 0xe0 => .stxAtomicDwXchg ((immOf w).getLsbD 0)
    | 0xf0 => .stxAtomicDwCmpxchg ((immOf w).getLsbD 0)
    | 0x00 => if (immOf w).getLsbD 0 then .stxAtomicDwFetchAdd else .stxAtomicDwAdd (dstOf w) (srcOf w) (offOf w)
    | 0x40 => if (immOf w).getLsbD 0 then .stxAtomicDwFetchOr else .stxAtomicDwOr (dstOf w) (srcOf w) (offOf w)
    | 0x50 => if (immOf w).getLsbD 0 then .stxAtomicDwFetchAnd else .stxAtomicDwAnd (dstOf w) (srcOf w) (offOf w)
    | 0xa0 => if (immOf w).getLsbD 0 then .stxAtomicDwFetchXor else .stxAtomicDwXor (dstOf w) (srcOf w) (offOf w)
    | _ => .stxAtomicDwOpOther (immOf w)

/-- Mode ATOMIC: size, then class, then operation (R177). -/
def decodeAtomic (c : LSClass) (z : Size) (w : Word) : Instr :=
  match z, c with
  | .h, c => .anyAtomicH c
  | .b, c => .anyAtomicB c
  | .w, .stx => decodeAtomicW w
  | .dw, .stx => decodeAtomicDw w
  | z, c => .notstxAtomicAny c z

/-- The load/store opcodes, by Mode first (R160); class and size are looked at only where a rule says so. -/
def decodeLoadStore (c : LSClass) (m : Mode) (z : Size) (w e : Word) : Instr :=
  match m, z, c with
  | .imm, z, c => decodeImm c z w e
  | .abs, .w, .ld => .ldAbsW
  | .abs, .w, .ldx => .ldxAbsW
  | .abs, .w, .st => .stAbsW
  | .abs, .w, .stx => .stxAbsW
  | .abs, .h, .ld => .ldAbsH
  | .abs, .h, .ldx => .ldxAbsH
  | .abs, .h, .st => .stAbsH
  | .abs, .h, .stx => .stxAbsH
  | .abs, .b, .ld => .ldAbsB
  | .abs, .b, .ldx => .ldxAbsB
  | .abs, .b, .st => .stAbsB
  | .abs, .b, .stx => .stxAbsB
  | .abs, .dw, .ld => .ldAbsDw
  | .abs, .dw, .ldx => .ldxAbsDw
  | .abs, .dw, .st => .stAbsDw
  | .abs, .dw, .stx => .stxAbsDw
  | .ind, .w, .ld => .ldIndW
  | .ind, .w, .ldx => .ldxIndW
  | .ind, .w, .st => .stIndW
  | .ind, .w, .stx => .stxIndW
  | .ind, .h, .ld => .ldIndH
  | .ind, .h, .ldx => .ldxIndH
  | .ind, .h, .st => .stIndH
  | .ind, .h, .stx => .stxIndH
  | .ind, .b, .ld => .ldIndB
  | .ind, .b, .ldx => .ldxIndB
  | .ind, .b, .st => .stIndB
  | .ind, .b, .stx => .stxIndB
  | .ind, .dw, .ld => .ldIndDw
  | .ind, .dw, .ldx => .ldxIndDw
  | .ind, .dw, .st => .stIndDw
  | .ind, .dw, .stx => .stxIndDw
  | .mem, .w, .ldx => .ldxMemW (dstOf w) (srcOf w) (offOf w)
  | .mem, .w, .st => .stMemW (dstOf w) (offOf w) (immOf w)
  | .mem, .w, .stx => .stxMemW (dstOf w) (srcOf w) (offOf w)
  | .mem, .h, .ldx => .ldxMemH (dstOf w) (srcOf w) (offOf w)
  | .mem, .h, .st => .stMemH (dstOf w) (offOf w) (immOf w)
  | .mem, .h, .stx => .stxMemH (dstOf w) (srcOf w) (offOf w)
  | .mem, .b, .ldx => .ldxMemB (dstOf w) (srcOf w) (offOf w)
  | .mem, .b, .st => .stMemB (dstOf w) (offOf w) (immOf w)
  | .mem, .b, .stx => .stxMemB (dstOf w) (srcOf w) (offOf w)
  | .mem, .dw, .ldx => .ldxMemDw (dstOf w) (srcOf w) (offOf w)
  | .mem, .dw, .st => .stMemDw (dstOf w) (offOf w) (immOf w)
  | .mem, .dw, .stx => .stxMemDw (dstOf w) (srcOf w) (offOf w)
  | .mem, z, .ld => .ldMemAny z
  | .memsx, .w, .ldx => .ldxMemsxW (dstOf w) (srcOf w) (offOf w)
  | .memsx, .h, .ldx => .ldxMemsxH (dstOf w) (srcOf w) (offOf w)
  | .memsx, .b, .ldx => .ldxMemsxB (dstOf w) (srcOf w) (offOf w)
  | .memsx, .dw, .ldx => .ldxMemsxDw (dstOf w) (srcOf w) (offOf w)
  | .memsx, z, c => .notldxMemsxAny c z
  | .mode5, z, c => .anyMode5 c z
  | .atomic, z, c => decodeAtomic c z w
  | .mode7, z, c => .anyMode7 c z

/-- The instruction of a basic word `w`; `e` is the extension word, read only when `w` is extended (R58, R63). -/
def decodeWords (w e : Word) : Instr :=
  match toTyped (opcodeOf w) with
  | .arithmetic c sel k => decodeArith c sel k w
  | .jump c sel k => decodeJump c sel k w
  | .loadStore c m z => decodeLoadStore c m z w e

/-- The instruction a byte stream begins with, and the bytes after it (R33, R36, R71). -/
def decode (bs : List Byte) : Except DecodeError (Instr × List Byte) :=
  match takeWord bs with
  | none => .error .truncatedWord
  | some (w, rest) =>
    if isExtended w then
      match takeWord rest with
      | none => .error .missingExtensionWord
      | some (e, rest') => .ok (decodeWords w e, rest')
    else .ok (decodeWords w 0, rest)

/-! ## The encoder -/

/-- The immediate of an atomic operation with its fetch bit as given (R183, R184). -/
def fetchImm (op : ImmField) (fetch : Bool) : ImmField := if fetch then op ||| 1 else op

/-- The words of an instruction: the basic word, and the extension word where the row has 128 bits. A field the row does
not read is 0 (log entry 7). -/
def encode : Instr → List Word
  | .aluAddK dst imm => [mkWord 0x04 0 dst 0 imm]
  | .aluAddX dst src => [mkWord 0x0c src dst 0 0]
  | .alu64AddK dst imm => [mkWord 0x07 0 dst 0 imm]
  | .alu64AddX dst src => [mkWord 0x0f src dst 0 0]
  | .aluSubK dst imm => [mkWord 0x14 0 dst 0 imm]
  | .aluSubX dst src => [mkWord 0x1c src dst 0 0]
  | .alu64SubK dst imm => [mkWord 0x17 0 dst 0 imm]
  | .alu64SubX dst src => [mkWord 0x1f src dst 0 0]
  | .aluMulK dst imm => [mkWord 0x24 0 dst 0 imm]
  | .aluMulX dst src => [mkWord 0x2c src dst 0 0]
  | .alu64MulK dst imm => [mkWord 0x27 0 dst 0 imm]
  | .alu64MulX dst src => [mkWord 0x2f src dst 0 0]
  | .aluDivKSrc0 dst => [mkWord 0x34 0 dst 0 0]
  | .aluDivK dst src imm => [mkWord 0x34 src dst 0 imm]
  | .aluDivXSrc0 dst => [mkWord 0x3c 0 dst 0 0]
  | .aluDivX dst src => [mkWord 0x3c src dst 0 0]
  | .alu64DivKSrc0 dst => [mkWord 0x37 0 dst 0 0]
  | .alu64DivK dst src imm => [mkWord 0x37 src dst 0 imm]
  | .alu64DivXSrc0 dst => [mkWord 0x3f 0 dst 0 0]
  | .alu64DivX dst src => [mkWord 0x3f src dst 0 0]
  | .aluOrK dst imm => [mkWord 0x44 0 dst 0 imm]
  | .aluOrX dst src => [mkWord 0x4c src dst 0 0]
  | .alu64OrK dst imm => [mkWord 0x47 0 dst 0 imm]
  | .alu64OrX dst src => [mkWord 0x4f src dst 0 0]
  | .aluAndK dst imm => [mkWord 0x54 0 dst 0 imm]
  | .aluAndX dst src => [mkWord 0x5c src dst 0 0]
  | .alu64AndK dst imm => [mkWord 0x57 0 dst 0 imm]
  | .alu64AndX dst src => [mkWord 0x5f src dst 0 0]
  | .aluLshK dst imm => [mkWord 0x64 0 dst 0 imm]
  | .aluLshX dst src => [mkWord 0x6c src dst 0 0]
  | .alu64LshK dst imm => [mkWord 0x67 0 dst 0 imm]
  | .alu64LshX dst src => [mkWord 0x6f src dst 0 0]
  | .aluRshK dst imm => [mkWord 0x74 0 dst 0 imm]
  | .aluRshX dst src => [mkWord 0x7c src dst 0 0]
  | .alu64RshK dst imm => [mkWord 0x77 0 dst 0 imm]
  | .alu64RshX dst src => [mkWord 0x7f src dst 0 0]
  | .aluNegK dst src => [mkWord 0x84 src dst 0 0]
  | .aluNegX dst src => [mkWord 0x8c src dst 0 0]
  | .alu64NegK dst src => [mkWord 0x87 src dst 0 0]
  | .alu64NegX dst src => [mkWord 0x8f src dst 0 0]
  | .aluModKSrc0 dst => [mkWord 0x94 0 dst 0 0]
  | .aluModK dst src imm => [mkWord 0x94 src dst 0 imm]
  | .aluModXSrc0 dst => [mkWord 0x9c 0 dst 0 0]
  | .aluModX dst src => [mkWord 0x9c src dst 0 0]
  | .alu64ModKSrc0 dst => [mkWord 0x97 0 dst 0 0]
  | .alu64ModK dst src imm => [mkWord 0x97 src dst 0 imm]
  | .alu64ModXSrc0 dst => [mkWord 0x9f 0 dst 0 0]
  | .alu64ModX dst src => [mkWord 0x9f src dst 0 0]
  | .aluXorK dst imm => [mkWord 0xa4 0 dst 0 imm]
  | .aluXorX dst src => [mkWord 0xac src dst 0 0]
  | .alu64XorK dst imm => [mkWord 0xa7 0 dst 0 imm]
  | .alu64XorX dst src => [mkWord 0xaf src dst 0 0]
  | .aluMovK dst imm => [mkWord 0xb4 0 dst 0 imm]
  | .aluMovX dst src => [mkWord 0xbc src dst 0 0]
  | .alu64MovK dst imm => [mkWord 0xb7 0 dst 0 imm]
  | .alu64MovX dst src => [mkWord 0xbf src dst 0 0]
  | .aluArshK dst imm => [mkWord 0xc4 0 dst 0 imm]
  | .aluArshX dst src => [mkWord 0xcc src dst 0 0]
  | .alu64ArshK dst imm => [mkWord 0xc7 0 dst 0 imm]
  | .alu64ArshX dst src => [mkWord 0xcf src dst 0 0]
  | .aluEndK => [mkWord 0xd4 0 0 0 0]
  | .aluEndX => [mkWord 0xdc 0 0 0 0]
  | .alu64EndK => [mkWord 0xd7 0 0 0 0]
  | .alu64EndX => [mkWord 0xdf 0 0 0 0]
  | .jmpJaK off => [mkWord 0x05 0 0 off 0]
  | .jmpJaX off => [mkWord 0x0d 0 0 off 0]
  | .jmp32JaK off => [mkWord 0x06 0 0 off 0]
  | .jmp32JaX off => [mkWord 0x0e 0 0 off 0]
  | .jmpJeqK dst off imm => [mkWord 0x15 0 dst off imm]
  | .jmpJeqX dst src off => [mkWord 0x1d src dst off 0]
  | .jmp32JeqK dst off imm => [mkWord 0x16 0 dst off imm]
  | .jmp32JeqX dst src off => [mkWord 0x1e src dst off 0]
  | .jmpJgtK dst off imm => [mkWord 0x25 0 dst off imm]
  | .jmpJgtX dst src off => [mkWord 0x2d src dst off 0]
  | .jmp32JgtK dst off imm => [mkWord 0x26 0 dst off imm]
  | .jmp32JgtX dst src off => [mkWord 0x2e src dst off 0]
  | .jmpJgeK dst off imm => [mkWord 0x35 0 dst off imm]
  | .jmpJgeX dst src off => [mkWord 0x3d src dst off 0]
  | .jmp32JgeK dst off imm => [mkWord 0x36 0 dst off imm]
  | .jmp32JgeX dst src off => [mkWord 0x3e src dst off 0]
  | .jmpJsetK dst off imm => [mkWord 0x45 0 dst off imm]
  | .jmpJsetX dst src off => [mkWord 0x4d src dst off 0]
  | .jmp32JsetK dst off imm => [mkWord 0x46 0 dst off imm]
  | .jmp32JsetX dst src off => [mkWord 0x4e src dst off 0]
  | .jmpJneK dst off imm => [mkWord 0x55 0 dst off imm]
  | .jmpJneX dst src off => [mkWord 0x5d src dst off 0]
  | .jmp32JneK dst off imm => [mkWord 0x56 0 dst off imm]
  | .jmp32JneX dst src off => [mkWord 0x5e src dst off 0]
  | .jmpJsgtK dst off imm => [mkWord 0x65 0 dst off imm]
  | .jmpJsgtX dst src off => [mkWord 0x6d src dst off 0]
  | .jmp32JsgtK dst off imm => [mkWord 0x66 0 dst off imm]
  | .jmp32JsgtX dst src off => [mkWord 0x6e src dst off 0]
  | .jmpJsgeK dst off imm => [mkWord 0x75 0 dst off imm]
  | .jmpJsgeX dst src off => [mkWord 0x7d src dst off 0]
  | .jmp32JsgeK dst off imm => [mkWord 0x76 0 dst off imm]
  | .jmp32JsgeX dst src off => [mkWord 0x7e src dst off 0]
  | .jmpCallKSel0 imm => [mkWord 0x85 0 0 0 imm]
  | .jmpCallKSel1 off => [mkWord 0x85 1 0 off 0]
  | .jmpCallKSel2 imm => [mkWord 0x85 2 0 0 imm]
  | .jmpCallXSel0 imm => [mkWord 0x8d 0 0 0 imm]
  | .jmpCallXSel1 off => [mkWord 0x8d 1 0 off 0]
  | .jmpCallXSel2 imm => [mkWord 0x8d 2 0 0 imm]
  | .jmp32CallKSel0 imm => [mkWord 0x86 0 0 0 imm]
  | .jmp32CallKSel1 off => [mkWord 0x86 1 0 off 0]
  | .jmp32CallKSel2 imm => [mkWord 0x86 2 0 0 imm]
  | .jmp32CallXSel0 imm => [mkWord 0x8e 0 0 0 imm]
  | .jmp32CallXSel1 off => [mkWord 0x8e 1 0 off 0]
  | .jmp32CallXSel2 imm => [mkWord 0x8e 2 0 0 imm]
  | .jmpExitK => [mkWord 0x95 0 0 0 0]
  | .jmpExitX => [mkWord 0x9d 0 0 0 0]
  | .jmp32ExitK => [mkWord 0x96 0 0 0 0]
  | .jmp32ExitX => [mkWord 0x9e 0 0 0 0]
  | .jmpJltK dst off imm => [mkWord 0xa5 0 dst off imm]
  | .jmpJltX dst src off => [mkWord 0xad src dst off 0]
  | .jmp32JltK dst off imm => [mkWord 0xa6 0 dst off imm]
  | .jmp32JltX dst src off => [mkWord 0xae src dst off 0]
  | .jmpJleK dst off imm => [mkWord 0xb5 0 dst off imm]
  | .jmpJleX dst src off => [mkWord 0xbd src dst off 0]
  | .jmp32JleK dst off imm => [mkWord 0xb6 0 dst off imm]
  | .jmp32JleX dst src off => [mkWord 0xbe src dst off 0]
  | .jmpJsltK dst off imm => [mkWord 0xc5 0 dst off imm]
  | .jmpJsltX dst src off => [mkWord 0xcd src dst off 0]
  | .jmp32JsltK dst off imm => [mkWord 0xc6 0 dst off imm]
  | .jmp32JsltX dst src off => [mkWord 0xce src dst off 0]
  | .jmpJsleK dst off imm => [mkWord 0xd5 0 dst off imm]
  | .jmpJsleX dst src off => [mkWord 0xdd src dst off 0]
  | .jmp32JsleK dst off imm => [mkWord 0xd6 0 dst off imm]
  | .jmp32JsleX dst src off => [mkWord 0xde src dst off 0]
  | .ldImmLiteral64 cls size dst imm nextImm => [mkWord (lsOpcode .imm size cls) 0 dst 0 imm, mkWord 0 0 0 0 nextImm]
  | .ldImmMapByFd cls size dst imm nextImm => [mkWord (lsOpcode .imm size cls) 1 dst 0 imm, mkWord 0 0 0 0 nextImm]
  | .ldImmMapValByFd cls size dst imm nextImm => [mkWord (lsOpcode .imm size cls) 2 dst 0 imm, mkWord 0 0 0 0 nextImm]
  | .ldImmVarAddr cls size dst imm nextImm => [mkWord (lsOpcode .imm size cls) 3 dst 0 imm, mkWord 0 0 0 0 nextImm]
  | .ldImmCodeAddr cls size dst imm nextImm => [mkWord (lsOpcode .imm size cls) 4 dst 0 imm, mkWord 0 0 0 0 nextImm]
  | .ldImmMapByIdx cls size dst imm nextImm => [mkWord (lsOpcode .imm size cls) 5 dst 0 imm, mkWord 0 0 0 0 nextImm]
  | .ldImmMapValByIdx cls size dst imm nextImm => [mkWord (lsOpcode .imm size cls) 6 dst 0 imm, mkWord 0 0 0 0 nextImm]
  | .ldAbsW => [mkWord 0x20 0 0 0 0]
  | .ldxAbsW => [mkWord 0x21 0 0 0 0]
  | .stAbsW => [mkWord 0x22 0 0 0 0]
  | .stxAbsW => [mkWord 0x23 0 0 0 0]
  | .ldAbsH => [mkWord 0x28 0 0 0 0]
  | .ldxAbsH => [mkWord 0x29 0 0 0 0]
  | .stAbsH => [mkWord 0x2a 0 0 0 0]
  | .stxAbsH => [mkWord 0x2b 0 0 0 0]
  | .ldAbsB => [mkWord 0x30 0 0 0 0]
  | .ldxAbsB => [mkWord 0x31 0 0 0 0]
  | .stAbsB => [mkWord 0x32 0 0 0 0]
  | .stxAbsB => [mkWord 0x33 0 0 0 0]
  | .ldAbsDw => [mkWord 0x38 0 0 0 0]
  | .ldxAbsDw => [mkWord 0x39 0 0 0 0]
  | .stAbsDw => [mkWord 0x3a 0 0 0 0]
  | .stxAbsDw => [mkWord 0x3b 0 0 0 0]
  | .ldIndW => [mkWord 0x40 0 0 0 0]
  | .ldxIndW => [mkWord 0x41 0 0 0 0]
  | .stIndW => [mkWord 0x42 0 0 0 0]
  | .stxIndW => [mkWord 0x43 0 0 0 0]
  | .ldIndH => [mkWord 0x48 0 0 0 0]
  | .ldxIndH => [mkWord 0x49 0 0 0 0]
  | .stIndH => [mkWord 0x4a 0 0 0 0]
  | .stxIndH => [mkWord 0x4b 0 0 0 0]
  | .ldIndB => [mkWord 0x50 0 0 0 0]
  | .ldxIndB => [mkWord 0x51 0 0 0 0]
  | .stIndB => [mkWord 0x52 0 0 0 0]
  | .stxIndB => [mkWord 0x53 0 0 0 0]
  | .ldIndDw => [mkWord 0x58 0 0 0 0]
  | .ldxIndDw => [mkWord 0x59 0 0 0 0]
  | .stIndDw => [mkWord 0x5a 0 0 0 0]
  | .stxIndDw => [mkWord 0x5b 0 0 0 0]
  | .ldxMemW dst src off => [mkWord 0x61 src dst off 0]
  | .stMemW dst off imm => [mkWord 0x62 0 dst off imm]
  | .stxMemW dst src off => [mkWord 0x63 src dst off 0]
  | .ldxMemH dst src off => [mkWord 0x69 src dst off 0]
  | .stMemH dst off imm => [mkWord 0x6a 0 dst off imm]
  | .stxMemH dst src off => [mkWord 0x6b src dst off 0]
  | .ldxMemB dst src off => [mkWord 0x71 src dst off 0]
  | .stMemB dst off imm => [mkWord 0x72 0 dst off imm]
  | .stxMemB dst src off => [mkWord 0x73 src dst off 0]
  | .ldxMemDw dst src off => [mkWord 0x79 src dst off 0]
  | .stMemDw dst off imm => [mkWord 0x7a 0 dst off imm]
  | .stxMemDw dst src off => [mkWord 0x7b src dst off 0]
  | .ldxMemsxW dst src off => [mkWord 0x81 src dst off 0]
  | .ldxMemsxH dst src off => [mkWord 0x89 src dst off 0]
  | .ldxMemsxB dst src off => [mkWord 0x91 src dst off 0]
  | .ldxMemsxDw dst src off => [mkWord 0x99 src dst off 0]
  | .stxAtomicWAdd dst src off => [mkWord 0xc3 src dst off 0x00]
  | .stxAtomicWOr dst src off => [mkWord 0xc3 src dst off 0x40]
  | .stxAtomicWAnd dst src off => [mkWord 0xc3 src dst off 0x50]
  | .stxAtomicWXor dst src off => [mkWord 0xc3 src dst off 0xa0]
  | .stxAtomicWFetchAdd => [mkWord 0xc3 0 0 0 0x01]
  | .stxAtomicWFetchOr => [mkWord 0xc3 0 0 0 0x41]
  | .stxAtomicWFetchAnd => [mkWord 0xc3 0 0 0 0x51]
  | .stxAtomicWFetchXor => [mkWord 0xc3 0 0 0 0xa1]
  | .stxAtomicWXchg fetch => [mkWord 0xc3 0 0 0 (fetchImm 0xe0 fetch)]
  | .stxAtomicWCmpxchg fetch => [mkWord 0xc3 0 0 0 (fetchImm 0xf0 fetch)]
  | .stxAtomicDwAdd dst src off => [mkWord 0xdb src dst off 0x00]
  | .stxAtomicDwOr dst src off => [mkWord 0xdb src dst off 0x40]
  | .stxAtomicDwAnd dst src off => [mkWord 0xdb src dst off 0x50]
  | .stxAtomicDwXor dst src off => [mkWord 0xdb src dst off 0xa0]
  | .stxAtomicDwFetchAdd => [mkWord 0xdb 0 0 0 0x01]
  | .stxAtomicDwFetchOr => [mkWord 0xdb 0 0 0 0x41]
  | .stxAtomicDwFetchAnd => [mkWord 0xdb 0 0 0 0x51]
  | .stxAtomicDwFetchXor => [mkWord 0xdb 0 0 0 0xa1]
  | .stxAtomicDwXchg fetch => [mkWord 0xdb 0 0 0 (fetchImm 0xe0 fetch)]
  | .stxAtomicDwCmpxchg fetch => [mkWord 0xdb 0 0 0 (fetchImm 0xf0 fetch)]
  | .aluCodeEK => [mkWord 0xe4 0 0 0 0]
  | .aluCodeEX => [mkWord 0xec 0 0 0 0]
  | .alu64CodeEK => [mkWord 0xe7 0 0 0 0]
  | .alu64CodeEX => [mkWord 0xef 0 0 0 0]
  | .aluCodeFK => [mkWord 0xf4 0 0 0 0]
  | .aluCodeFX => [mkWord 0xfc 0 0 0 0]
  | .alu64CodeFK => [mkWord 0xf7 0 0 0 0]
  | .alu64CodeFX => [mkWord 0xff 0 0 0 0]
  | .jmpCodeEK => [mkWord 0xe5 0 0 0 0]
  | .jmpCodeEX => [mkWord 0xed 0 0 0 0]
  | .jmp32CodeEK => [mkWord 0xe6 0 0 0 0]
  | .jmp32CodeEX => [mkWord 0xee 0 0 0 0]
  | .jmpCodeFK => [mkWord 0xf5 0 0 0 0]
  | .jmpCodeFX => [mkWord 0xfd 0 0 0 0]
  | .jmp32CodeFK => [mkWord 0xf6 0 0 0 0]
  | .jmp32CodeFX => [mkWord 0xfe 0 0 0 0]
  | .jmpCallKSelOther src => [mkWord 0x85 src 0 0 0]
  | .jmpCallXSelOther src => [mkWord 0x8d src 0 0 0]
  | .jmp32CallKSelOther src => [mkWord 0x86 src 0 0 0]
  | .jmp32CallXSelOther src => [mkWord 0x8e src 0 0 0]
  | .ldImmSelOther cls size src nextImm => [mkWord (lsOpcode .imm size cls) src 0 0 0, mkWord 0 0 0 0 nextImm]
  | .ldMemAny size => [mkWord (lsOpcode .mem size .ld) 0 0 0 0]
  | .notldxMemsxAny cls size => [mkWord (lsOpcode .memsx size cls) 0 0 0 0]
  | .anyAtomicH cls => [mkWord (lsOpcode .atomic .h cls) 0 0 0 0]
  | .anyAtomicB cls => [mkWord (lsOpcode .atomic .b cls) 0 0 0 0]
  | .stxAtomicWOpOther imm => [mkWord 0xc3 0 0 0 imm]
  | .stxAtomicDwOpOther imm => [mkWord 0xdb 0 0 0 imm]
  | .notstxAtomicAny cls size => [mkWord (lsOpcode .atomic size cls) 0 0 0 0]
  | .anyMode5 cls size => [mkWord (lsOpcode .mode5 size cls) 0 0 0 0]
  | .anyMode7 cls size => [mkWord (lsOpcode .mode7 size cls) 0 0 0 0]

/-- The bytes of an instruction in the stream: each word most significant byte first (R33). -/
def encodeBytes (i : Instr) : List Byte := (encode i).flatMap streamBytes

/-- The decoder on an instruction whose bits are `w` as the opcode table numbers them: the basic word is bits 63 to 0, the
extension word bits 127 to 64, every bit from `nbits` up is 0. -/
def decodeTableWord (nbits w : Nat) : Option Instr :=
  let v := w % 2 ^ nbits
  match decode (streamBytes (BitVec.ofNat 64 v) ++ streamBytes (BitVec.ofNat 64 (v / 2 ^ 64))) with
  | .ok (i, _) => some i
  | .error _ => none

/-! ## The row of an instruction -/

/-- The mnemonic of the instruction's row in the opcode table. The block never prints it (00_scope.md section 6.3). -/
def Instr.mnemonic : Instr → String
  | .aluAddK _ _ => "ALU_ADD_K"
  | .aluAddX _ _ => "ALU_ADD_X"
  | .alu64AddK _ _ => "ALU64_ADD_K"
  | .alu64AddX _ _ => "ALU64_ADD_X"
  | .aluSubK _ _ => "ALU_SUB_K"
  | .aluSubX _ _ => "ALU_SUB_X"
  | .alu64SubK _ _ => "ALU64_SUB_K"
  | .alu64SubX _ _ => "ALU64_SUB_X"
  | .aluMulK _ _ => "ALU_MUL_K"
  | .aluMulX _ _ => "ALU_MUL_X"
  | .alu64MulK _ _ => "ALU64_MUL_K"
  | .alu64MulX _ _ => "ALU64_MUL_X"
  | .aluDivKSrc0 _ => "ALU_DIV_K_SRC0"
  | .aluDivK _ _ _ => "ALU_DIV_K"
  | .aluDivXSrc0 _ => "ALU_DIV_X_SRC0"
  | .aluDivX _ _ => "ALU_DIV_X"
  | .alu64DivKSrc0 _ => "ALU64_DIV_K_SRC0"
  | .alu64DivK _ _ _ => "ALU64_DIV_K"
  | .alu64DivXSrc0 _ => "ALU64_DIV_X_SRC0"
  | .alu64DivX _ _ => "ALU64_DIV_X"
  | .aluOrK _ _ => "ALU_OR_K"
  | .aluOrX _ _ => "ALU_OR_X"
  | .alu64OrK _ _ => "ALU64_OR_K"
  | .alu64OrX _ _ => "ALU64_OR_X"
  | .aluAndK _ _ => "ALU_AND_K"
  | .aluAndX _ _ => "ALU_AND_X"
  | .alu64AndK _ _ => "ALU64_AND_K"
  | .alu64AndX _ _ => "ALU64_AND_X"
  | .aluLshK _ _ => "ALU_LSH_K"
  | .aluLshX _ _ => "ALU_LSH_X"
  | .alu64LshK _ _ => "ALU64_LSH_K"
  | .alu64LshX _ _ => "ALU64_LSH_X"
  | .aluRshK _ _ => "ALU_RSH_K"
  | .aluRshX _ _ => "ALU_RSH_X"
  | .alu64RshK _ _ => "ALU64_RSH_K"
  | .alu64RshX _ _ => "ALU64_RSH_X"
  | .aluNegK _ _ => "ALU_NEG_K"
  | .aluNegX _ _ => "ALU_NEG_X"
  | .alu64NegK _ _ => "ALU64_NEG_K"
  | .alu64NegX _ _ => "ALU64_NEG_X"
  | .aluModKSrc0 _ => "ALU_MOD_K_SRC0"
  | .aluModK _ _ _ => "ALU_MOD_K"
  | .aluModXSrc0 _ => "ALU_MOD_X_SRC0"
  | .aluModX _ _ => "ALU_MOD_X"
  | .alu64ModKSrc0 _ => "ALU64_MOD_K_SRC0"
  | .alu64ModK _ _ _ => "ALU64_MOD_K"
  | .alu64ModXSrc0 _ => "ALU64_MOD_X_SRC0"
  | .alu64ModX _ _ => "ALU64_MOD_X"
  | .aluXorK _ _ => "ALU_XOR_K"
  | .aluXorX _ _ => "ALU_XOR_X"
  | .alu64XorK _ _ => "ALU64_XOR_K"
  | .alu64XorX _ _ => "ALU64_XOR_X"
  | .aluMovK _ _ => "ALU_MOV_K"
  | .aluMovX _ _ => "ALU_MOV_X"
  | .alu64MovK _ _ => "ALU64_MOV_K"
  | .alu64MovX _ _ => "ALU64_MOV_X"
  | .aluArshK _ _ => "ALU_ARSH_K"
  | .aluArshX _ _ => "ALU_ARSH_X"
  | .alu64ArshK _ _ => "ALU64_ARSH_K"
  | .alu64ArshX _ _ => "ALU64_ARSH_X"
  | .aluEndK => "ALU_END_K"
  | .aluEndX => "ALU_END_X"
  | .alu64EndK => "ALU64_END_K"
  | .alu64EndX => "ALU64_END_X"
  | .jmpJaK _ => "JMP_JA_K"
  | .jmpJaX _ => "JMP_JA_X"
  | .jmp32JaK _ => "JMP32_JA_K"
  | .jmp32JaX _ => "JMP32_JA_X"
  | .jmpJeqK _ _ _ => "JMP_JEQ_K"
  | .jmpJeqX _ _ _ => "JMP_JEQ_X"
  | .jmp32JeqK _ _ _ => "JMP32_JEQ_K"
  | .jmp32JeqX _ _ _ => "JMP32_JEQ_X"
  | .jmpJgtK _ _ _ => "JMP_JGT_K"
  | .jmpJgtX _ _ _ => "JMP_JGT_X"
  | .jmp32JgtK _ _ _ => "JMP32_JGT_K"
  | .jmp32JgtX _ _ _ => "JMP32_JGT_X"
  | .jmpJgeK _ _ _ => "JMP_JGE_K"
  | .jmpJgeX _ _ _ => "JMP_JGE_X"
  | .jmp32JgeK _ _ _ => "JMP32_JGE_K"
  | .jmp32JgeX _ _ _ => "JMP32_JGE_X"
  | .jmpJsetK _ _ _ => "JMP_JSET_K"
  | .jmpJsetX _ _ _ => "JMP_JSET_X"
  | .jmp32JsetK _ _ _ => "JMP32_JSET_K"
  | .jmp32JsetX _ _ _ => "JMP32_JSET_X"
  | .jmpJneK _ _ _ => "JMP_JNE_K"
  | .jmpJneX _ _ _ => "JMP_JNE_X"
  | .jmp32JneK _ _ _ => "JMP32_JNE_K"
  | .jmp32JneX _ _ _ => "JMP32_JNE_X"
  | .jmpJsgtK _ _ _ => "JMP_JSGT_K"
  | .jmpJsgtX _ _ _ => "JMP_JSGT_X"
  | .jmp32JsgtK _ _ _ => "JMP32_JSGT_K"
  | .jmp32JsgtX _ _ _ => "JMP32_JSGT_X"
  | .jmpJsgeK _ _ _ => "JMP_JSGE_K"
  | .jmpJsgeX _ _ _ => "JMP_JSGE_X"
  | .jmp32JsgeK _ _ _ => "JMP32_JSGE_K"
  | .jmp32JsgeX _ _ _ => "JMP32_JSGE_X"
  | .jmpCallKSel0 _ => "JMP_CALL_K_SEL0"
  | .jmpCallKSel1 _ => "JMP_CALL_K_SEL1"
  | .jmpCallKSel2 _ => "JMP_CALL_K_SEL2"
  | .jmpCallXSel0 _ => "JMP_CALL_X_SEL0"
  | .jmpCallXSel1 _ => "JMP_CALL_X_SEL1"
  | .jmpCallXSel2 _ => "JMP_CALL_X_SEL2"
  | .jmp32CallKSel0 _ => "JMP32_CALL_K_SEL0"
  | .jmp32CallKSel1 _ => "JMP32_CALL_K_SEL1"
  | .jmp32CallKSel2 _ => "JMP32_CALL_K_SEL2"
  | .jmp32CallXSel0 _ => "JMP32_CALL_X_SEL0"
  | .jmp32CallXSel1 _ => "JMP32_CALL_X_SEL1"
  | .jmp32CallXSel2 _ => "JMP32_CALL_X_SEL2"
  | .jmpExitK => "JMP_EXIT_K"
  | .jmpExitX => "JMP_EXIT_X"
  | .jmp32ExitK => "JMP32_EXIT_K"
  | .jmp32ExitX => "JMP32_EXIT_X"
  | .jmpJltK _ _ _ => "JMP_JLT_K"
  | .jmpJltX _ _ _ => "JMP_JLT_X"
  | .jmp32JltK _ _ _ => "JMP32_JLT_K"
  | .jmp32JltX _ _ _ => "JMP32_JLT_X"
  | .jmpJleK _ _ _ => "JMP_JLE_K"
  | .jmpJleX _ _ _ => "JMP_JLE_X"
  | .jmp32JleK _ _ _ => "JMP32_JLE_K"
  | .jmp32JleX _ _ _ => "JMP32_JLE_X"
  | .jmpJsltK _ _ _ => "JMP_JSLT_K"
  | .jmpJsltX _ _ _ => "JMP_JSLT_X"
  | .jmp32JsltK _ _ _ => "JMP32_JSLT_K"
  | .jmp32JsltX _ _ _ => "JMP32_JSLT_X"
  | .jmpJsleK _ _ _ => "JMP_JSLE_K"
  | .jmpJsleX _ _ _ => "JMP_JSLE_X"
  | .jmp32JsleK _ _ _ => "JMP32_JSLE_K"
  | .jmp32JsleX _ _ _ => "JMP32_JSLE_X"
  | .ldImmLiteral64 _ _ _ _ _ => "LD_IMM_LITERAL64"
  | .ldImmMapByFd _ _ _ _ _ => "LD_IMM_MAP_BY_FD"
  | .ldImmMapValByFd _ _ _ _ _ => "LD_IMM_MAP_VAL_BY_FD"
  | .ldImmVarAddr _ _ _ _ _ => "LD_IMM_VAR_ADDR"
  | .ldImmCodeAddr _ _ _ _ _ => "LD_IMM_CODE_ADDR"
  | .ldImmMapByIdx _ _ _ _ _ => "LD_IMM_MAP_BY_IDX"
  | .ldImmMapValByIdx _ _ _ _ _ => "LD_IMM_MAP_VAL_BY_IDX"
  | .ldAbsW => "LD_ABS_W"
  | .ldxAbsW => "LDX_ABS_W"
  | .stAbsW => "ST_ABS_W"
  | .stxAbsW => "STX_ABS_W"
  | .ldAbsH => "LD_ABS_H"
  | .ldxAbsH => "LDX_ABS_H"
  | .stAbsH => "ST_ABS_H"
  | .stxAbsH => "STX_ABS_H"
  | .ldAbsB => "LD_ABS_B"
  | .ldxAbsB => "LDX_ABS_B"
  | .stAbsB => "ST_ABS_B"
  | .stxAbsB => "STX_ABS_B"
  | .ldAbsDw => "LD_ABS_DW"
  | .ldxAbsDw => "LDX_ABS_DW"
  | .stAbsDw => "ST_ABS_DW"
  | .stxAbsDw => "STX_ABS_DW"
  | .ldIndW => "LD_IND_W"
  | .ldxIndW => "LDX_IND_W"
  | .stIndW => "ST_IND_W"
  | .stxIndW => "STX_IND_W"
  | .ldIndH => "LD_IND_H"
  | .ldxIndH => "LDX_IND_H"
  | .stIndH => "ST_IND_H"
  | .stxIndH => "STX_IND_H"
  | .ldIndB => "LD_IND_B"
  | .ldxIndB => "LDX_IND_B"
  | .stIndB => "ST_IND_B"
  | .stxIndB => "STX_IND_B"
  | .ldIndDw => "LD_IND_DW"
  | .ldxIndDw => "LDX_IND_DW"
  | .stIndDw => "ST_IND_DW"
  | .stxIndDw => "STX_IND_DW"
  | .ldxMemW _ _ _ => "LDX_MEM_W"
  | .stMemW _ _ _ => "ST_MEM_W"
  | .stxMemW _ _ _ => "STX_MEM_W"
  | .ldxMemH _ _ _ => "LDX_MEM_H"
  | .stMemH _ _ _ => "ST_MEM_H"
  | .stxMemH _ _ _ => "STX_MEM_H"
  | .ldxMemB _ _ _ => "LDX_MEM_B"
  | .stMemB _ _ _ => "ST_MEM_B"
  | .stxMemB _ _ _ => "STX_MEM_B"
  | .ldxMemDw _ _ _ => "LDX_MEM_DW"
  | .stMemDw _ _ _ => "ST_MEM_DW"
  | .stxMemDw _ _ _ => "STX_MEM_DW"
  | .ldxMemsxW _ _ _ => "LDX_MEMSX_W"
  | .ldxMemsxH _ _ _ => "LDX_MEMSX_H"
  | .ldxMemsxB _ _ _ => "LDX_MEMSX_B"
  | .ldxMemsxDw _ _ _ => "LDX_MEMSX_DW"
  | .stxAtomicWAdd _ _ _ => "STX_ATOMIC_W_ADD"
  | .stxAtomicWOr _ _ _ => "STX_ATOMIC_W_OR"
  | .stxAtomicWAnd _ _ _ => "STX_ATOMIC_W_AND"
  | .stxAtomicWXor _ _ _ => "STX_ATOMIC_W_XOR"
  | .stxAtomicWFetchAdd => "STX_ATOMIC_W_FETCH_ADD"
  | .stxAtomicWFetchOr => "STX_ATOMIC_W_FETCH_OR"
  | .stxAtomicWFetchAnd => "STX_ATOMIC_W_FETCH_AND"
  | .stxAtomicWFetchXor => "STX_ATOMIC_W_FETCH_XOR"
  | .stxAtomicWXchg _ => "STX_ATOMIC_W_XCHG"
  | .stxAtomicWCmpxchg _ => "STX_ATOMIC_W_CMPXCHG"
  | .stxAtomicDwAdd _ _ _ => "STX_ATOMIC_DW_ADD"
  | .stxAtomicDwOr _ _ _ => "STX_ATOMIC_DW_OR"
  | .stxAtomicDwAnd _ _ _ => "STX_ATOMIC_DW_AND"
  | .stxAtomicDwXor _ _ _ => "STX_ATOMIC_DW_XOR"
  | .stxAtomicDwFetchAdd => "STX_ATOMIC_DW_FETCH_ADD"
  | .stxAtomicDwFetchOr => "STX_ATOMIC_DW_FETCH_OR"
  | .stxAtomicDwFetchAnd => "STX_ATOMIC_DW_FETCH_AND"
  | .stxAtomicDwFetchXor => "STX_ATOMIC_DW_FETCH_XOR"
  | .stxAtomicDwXchg _ => "STX_ATOMIC_DW_XCHG"
  | .stxAtomicDwCmpxchg _ => "STX_ATOMIC_DW_CMPXCHG"
  | .aluCodeEK => "ALU_CODE_E_K"
  | .aluCodeEX => "ALU_CODE_E_X"
  | .alu64CodeEK => "ALU64_CODE_E_K"
  | .alu64CodeEX => "ALU64_CODE_E_X"
  | .aluCodeFK => "ALU_CODE_F_K"
  | .aluCodeFX => "ALU_CODE_F_X"
  | .alu64CodeFK => "ALU64_CODE_F_K"
  | .alu64CodeFX => "ALU64_CODE_F_X"
  | .jmpCodeEK => "JMP_CODE_E_K"
  | .jmpCodeEX => "JMP_CODE_E_X"
  | .jmp32CodeEK => "JMP32_CODE_E_K"
  | .jmp32CodeEX => "JMP32_CODE_E_X"
  | .jmpCodeFK => "JMP_CODE_F_K"
  | .jmpCodeFX => "JMP_CODE_F_X"
  | .jmp32CodeFK => "JMP32_CODE_F_K"
  | .jmp32CodeFX => "JMP32_CODE_F_X"
  | .jmpCallKSelOther _ => "JMP_CALL_K_SEL_OTHER"
  | .jmpCallXSelOther _ => "JMP_CALL_X_SEL_OTHER"
  | .jmp32CallKSelOther _ => "JMP32_CALL_K_SEL_OTHER"
  | .jmp32CallXSelOther _ => "JMP32_CALL_X_SEL_OTHER"
  | .ldImmSelOther _ _ _ _ => "LD_IMM_SEL_OTHER"
  | .ldMemAny _ => "LD_MEM_ANY"
  | .notldxMemsxAny _ _ => "NOTLDX_MEMSX_ANY"
  | .anyAtomicH _ => "ANY_ATOMIC_H"
  | .anyAtomicB _ => "ANY_ATOMIC_B"
  | .stxAtomicWOpOther _ => "STX_ATOMIC_W_OP_OTHER"
  | .stxAtomicDwOpOther _ => "STX_ATOMIC_DW_OP_OTHER"
  | .notstxAtomicAny _ _ => "NOTSTX_ATOMIC_ANY"
  | .anyMode5 _ _ => "ANY_MODE5"
  | .anyMode7 _ _ => "ANY_MODE7"

end Sys2Proof
end

