-- ==== Sys2Proof/Config.lean ====
section
/-! DEFINITION. The implementation parameters of 00_scope.md section 4. The spec leaves no VALUE of any instruction open
(93_implementation_defined.md: each open point is a decision, a condition or a parameter), so there is no opaque free
value here. `HAS_STEPPER` is taken as true: this model is a model of the block with its stepper (log entry 12). -/

namespace Sys2Proof.Config

/-- `NREGS`: registers in the stepper's register file, numbered 0 to 10 (R10). -/
abbrev numRegs : Nat := 11

/-- `PCW`: width of the program counter (R13, decision D29). -/
abbrev pcWidth : Nat := 32

/-- The bound on the number of slots of a Program: `L < 2^32 - 1` (R14, decision D29). -/
abbrev slotBound : Nat := 2 ^ 32 - 1

/-- `TEXT_MAX`, in bytes (decision D33). No operation cuts a text to it: the longest text is shorter. -/
abbrev textMax : Nat := 64

/-- The default of `cfg_number` when the host gives no value (R16, R22). -/
abbrev defaultNumber : Bool := true

/-- The default of `cfg_bytes` when the host gives no value (R16, R22). -/
abbrev defaultBytes : Bool := true

end Sys2Proof.Config
end

