-- ==== Sys2Proof/Machine/State.lean ====
section
/-! DEFINITION. The state of the block: one ExecutionStepper instance with its attached Program (10_state.md,
45_stepper.md R200), the conditions an operation can end with (60_exceptions.md), and the state after reset. -/

namespace Sys2Proof.Machine

open Sys2Proof

/-- One slot of the program store: a 64-bit word, and whether the pairing scan made it an extension word (R18). -/
structure Slot where
  word : Word
  isExtSlot : Bool
deriving DecidableEq, Repr

/-- The program store, the block's one address space: the slots `Prog[0]` to `Prog[L-1]`, slot `i` at position `i`
(R18, R30, R31). An index that is not listed holds nothing: a fetch there reads nothing and raises `EndOfProgram`. -/
abbrev Memory := List Slot

/-- An Instruction record (R20). -/
structure Instruction where
  basic : Word
  extension : Option Word
  isExtended : Bool
deriving DecidableEq, Repr

/-- The three values of the stepper's state register (R15); `Halted` has the one cause `EndOfProgram`. -/
inductive StepperState
  | ready | running | halted
deriving DecidableEq, Repr

/-- The reasons of `UnsupportedEncoding`, in the order of their codes (R231). -/
inductive UnsupportedReason
  | byteSwap | legacyAbs | legacyInd | atomicFetch | atomicXchg | atomicCmpxchg
deriving DecidableEq, Repr

/-- The reasons of `InvalidOpcode`, in the order of their codes (R232). -/
inductive InvalidReason
  | arithCode | jumpCode | callSelector | lsMode | immSelector | memClass | memsxClass | atomicSize | atomicClass | atomicOp
deriving DecidableEq, Repr

/-- What `MalformedEncoding` carries (R236): the input length, or the index of the chunk that does not parse. -/
inductive MalformedInfo
  | length (n : Nat)
  | chunk (i : Nat)
deriving DecidableEq, Repr

/-- The conditions of R230, in the order of their codes, with what each carries (R236). The slot index is present when
`RenderLine` raises the condition, absent when `Render` does. -/
inductive Condition
  | ok
  | unsupportedEncoding (reason : UnsupportedReason) (slot : Option Nat)
  | invalidOpcode (reason : InvalidReason) (slot : Option Nat)
  | endOfProgram
  | malformedEncoding (info : MalformedInfo)
  | missingExtensionWord (head : Nat)
  | sectionNotFound (available : List String)
  | invalidRegister
deriving DecidableEq, Repr

/-- Why a step stops. Every condition the spec lets `ExecuteStep` raise is a NEXT state here (log entry 2); the two
constructors below are reached only from a store that the pairing scan never makes, where `Instr(pc)` is not defined. -/
inductive Fault
  /-- Raised by the fetch (`instrAt`) when slot `pc` is an extension slot: "`Instr(i)` is not defined for a slot with
  `is_ext_slot = 1`" (R20). Safe: no run from reset or `LoadProgram` of a paired program gets there (R209). -/
  | extensionSlotFetched
  /-- Raised by the fetch (`instrAt`) when slot `pc` is an extended head and there is no slot `pc + 1`: the extension of
  `Instr(pc)` does not exist (R20, R37). Safe: `Pair` refuses such a program. -/
  | extensionWordAbsent
deriving DecidableEq, Repr

/-- Why a step is refused. -/
inductive Refusal
  /-- Answered by an arm of `exec` whose instruction has no meaning yet, with the mnemonic of its table row. Safe: the
  model says nothing about such an instruction. No arm answers it now. -/
  | notModelled (mnemonic : String)
deriving DecidableEq, Repr

/-- One ExecutionStepper instance (R200): eleven registers, the program counter, the state register and the attached
Program. `result` is the model's own field: the result value of the last stepper operation that wrote state, which the
spec hands to the host (R200, R236; log entry 1). -/
structure State where
  x : Vector Word Config.numRegs
  pc : BitVec Config.pcWidth
  state : StepperState
  prog : Memory
  result : Condition
deriving DecidableEq, Repr

/-- The state after reset (R22, R260): registers 0, `pc` 0, Ready, the empty program; `result` is the OK that `Reset`
returns. -/
def State.reset : State :=
  { x := Vector.replicate Config.numRegs 0
    pc := 0
    state := .ready
    prog := []
    result := .ok }

end Sys2Proof.Machine
end

