-- ==== Sys2Proof/Machine/Ops.lean ====
section
/-! DEFINITION. The named operations over the registers, the program store and the stepper's control state: reading and
writing a register, the fetch, the end of a completed step, raising a condition, attaching a program, and reset. -/

namespace Sys2Proof.Machine

open Sys2Proof

/-- What a step, or the meaning of one instruction, answers. -/
abbrev Result := Host.Outcome State Fault Refusal

/-! ## Registers (R10, R11, R12) -/

/-- `x[r]`: there is a register for ids 0 to 10 and none for the field values 11 to 15 (R10, R205). -/
def State.reg? (s : State) (r : RegField) : Option Word := s.x[r.toNat]?

/-- `x[r] <- v`. No register is hard-wired (R11); a field of 11 to 15 names no register, and nothing is written. -/
def State.setReg (s : State) (r : RegField) (v : Word) : State := { s with x := s.x.setIfInBounds r.toNat v }

/-! ## The program store (R18, R30 to R35) -/

/-- `L`, the number of slots of the attached Program. -/
def Memory.slotCount (m : Memory) : Nat := m.length

/-- The words of the raw stream, in slot order. -/
def Memory.words (m : Memory) : List Word := m.map Slot.word

/-- The store as the byte stream it was made from: stream byte `8i + j` is `sbyte(Prog[i].word, j)` (R33). -/
def Memory.bytes (m : Memory) : List Byte := m.flatMap (fun s => streamBytes s.word)

/-- One byte of the store, by its place in the stream; nothing past the last slot. -/
def Memory.readByte (m : Memory) (a : Nat) : Option Byte := m.bytes[a]?

/-- The store as (address, byte) pairs, addresses rising, every byte of every slot listed. -/
def Memory.cells (m : Memory) : List Host.Cell := (m.bytes.zipIdx).map (fun p => (p.2, p.1))

/-- Whether the tags are the ones the left-to-right pairing scan gives these words (R18, R36), and no extended head
stands last (R37). -/
def Memory.tagged : Memory → Bool
  | [] => true
  | [h] => !h.isExtSlot && !isExtended h.word
  | h :: e :: rest =>
      !h.isExtSlot &&
        if isExtended h.word then e.isExtSlot && Memory.tagged rest else Memory.tagged (e :: rest)

/-- The form a store has that `Pair` made and whose length the program counter can hold (R18, R36, R14). -/
def Memory.wf (m : Memory) : Bool := Memory.tagged m && decide (Memory.slotCount m < Config.slotBound)

/-- `Instr(i)` for a slot `i` that exists (R20), or why it is not defined. -/
def instrAt (m : Memory) (i : Nat) (head : Slot) : Except Fault Instruction :=
  if head.isExtSlot then .error .extensionSlotFetched
  else if isExtended head.word then
    match m[i + 1]? with
    | some e => .ok ⟨head.word, some e.word, true⟩
    | none => .error .extensionWordAbsent
  else .ok ⟨head.word, none, false⟩

/-- The invariant of an Instruction (R20): `isExtended` is that of its basic word, and the extension word is there
exactly when it is extended. -/
def Instruction.wf (i : Instruction) : Bool :=
  (i.isExtended == Sys2Proof.isExtended i.basic) && (i.extension.isSome == i.isExtended)

/-- The instruction a record stands for. The extension word is read only when the basic word is extended (R58). -/
def Instruction.decoded (i : Instruction) : Instr := decodeWords i.basic (i.extension.getD 0)

/-! ## Completing a step, raising a condition, and what the host does next -/

/-- The end of a step that returns OK (R204, R207): `pc` moves past the instruction's slots, `state` is Running. -/
def State.completed (s : State) (slots : BitVec Config.pcWidth) : State :=
  { s with pc := s.pc + slots, state := .running, result := .ok }

/-- A step over an instruction of the no-operation set (R206): nothing is read or written but `pc` and `state`. -/
def State.stepOver (s : State) (slots : BitVec Config.pcWidth) : Result := .next (s.completed slots)

/-- `raise C` by `ExecuteStep` (R204, R205, R236, R241). A condition is a result value handed to the host: no state is
saved, no mode changes and no vector is fetched. `EndOfProgram` has written `state` (Halted) and nothing else; every
other condition has written nothing. There is no return instruction: the host resumes by `LoadProgram` or `Reset`
(R243). -/
def State.raise (s : State) (c : Condition) : State :=
  match c with
  | .endOfProgram => { s with state := .halted, result := c }
  | .ok | .unsupportedEncoding _ _ | .invalidOpcode _ _ | .malformedEncoding _ | .missingExtensionWord _
  | .sectionNotFound _ | .invalidRegister => { s with result := c }

/-- `LoadProgram(p)` (R202): attaches `p`, `pc` to 0, to Ready, in every state; the registers keep their values. -/
def State.loadProgram (s : State) (p : Memory) : State :=
  { s with prog := p, pc := 0, state := .ready, result := .ok }

/-- `Reset` (R211, R260), in every state: the state of a fresh stepper. -/
def State.doReset (_s : State) : State := State.reset

/-- The 2-bit number of the state register (R15, decision D27); 3 is never produced. -/
def StepperState.bits : StepperState → BitVec 2
  | .ready => 0
  | .running => 1
  | .halted => 2

/-- The numeric code of a condition (R230, decision D23). -/
def Condition.code : Condition → Nat
  | .ok => 0
  | .unsupportedEncoding _ _ => 1
  | .invalidOpcode _ _ => 2
  | .endOfProgram => 3
  | .malformedEncoding _ => 4
  | .missingExtensionWord _ => 5
  | .sectionNotFound _ => 6
  | .invalidRegister => 7

/-- The reason code of `UnsupportedEncoding` (R231). -/
def UnsupportedReason.code : UnsupportedReason → Nat
  | .byteSwap => 1
  | .legacyAbs => 2
  | .legacyInd => 3
  | .atomicFetch => 4
  | .atomicXchg => 5
  | .atomicCmpxchg => 6

/-- The reason code of `InvalidOpcode` (R232). -/
def InvalidReason.code : InvalidReason → Nat
  | .arithCode => 1
  | .jumpCode => 2
  | .callSelector => 3
  | .lsMode => 4
  | .immSelector => 5
  | .memClass => 6
  | .memsxClass => 7
  | .atomicSize => 8
  | .atomicClass => 9
  | .atomicOp => 10

/-- The fetch and test of `ExecuteStep` (R204): `EndOfProgram` when `pc >= L`, before anything is looked at (R240);
else the instruction of slot `pc` goes to `run`. -/
def State.executeStep (s : State) (run : Instr → State → Result) : Result :=
  match s.prog[s.pc.toNat]? with
  | none => .next (s.raise .endOfProgram)
  | some head =>
    match instrAt s.prog s.pc.toNat head with
    | .error f => .fault f
    | .ok i => run i.decoded s

/-- The slots of one instruction whose basic word is `basic`: the word alone, or the word and its extension (R50, R36). -/
def slotsOf (basic ext : Word) : Memory :=
  if isExtended basic then [⟨basic, false⟩, ⟨ext, true⟩] else [⟨basic, false⟩]

end Sys2Proof.Machine
end

