-- ==== Sys2Proof/Machine/Operands.lean ====
section
/-! DEFINITION. The source operand of an arithmetic instruction, the two operation widths, the nine interpreted
operations on W-bit patterns, and the action of `ExecuteStep` on an interpreted instruction (40_arithmetic.md R101,
R117). The block has no flags (R17), so there is no flag computation. -/

namespace Sys2Proof.Machine

open Sys2Proof

/-- The decoded source operand: an immediate constant (Source K) or a register (Source X). -/
inductive Operand
  | k (imm : ImmField)
  | x (src : RegField)
deriving DecidableEq, Repr

/-- The two widths: 32 bits in class ALU, 64 bits in class ALU64 (R101). -/
inductive Width
  | w32 | w64
deriving DecidableEq, Repr

/-- `b64` (R101): the register's pattern, or the immediate sign-extended to 64 bits; none when a register of Source X
does not exist. Under Source K the `src` field is not looked at (R205). -/
def Operand.value (o : Operand) (s : State) : Option Word :=
  match o with
  | .k imm => some (imm.signExtend 64)
  | .x src => s.reg? src

/-- `zext_64(f(a, b))` at width W: in class ALU the low 32 bits go in and the result is zero-extended (R101). -/
def Width.apply (w : Width) (f : (n : Nat) → BitVec n → BitVec n → BitVec n) (a b : Word) : Word :=
  match w with
  | .w32 => (f 32 (a.setWidth 32) (b.setWidth 32)).setWidth 64
  | .w64 => f 64 a b

/-- ADD: `(a + b) mod 2^W` (R102). -/
def addBits (n : Nat) (a b : BitVec n) : BitVec n := a + b

/-- SUB: `(a - b) mod 2^W` (R103). -/
def subBits (n : Nat) (a b : BitVec n) : BitVec n := a - b

/-- MUL: the low W bits of the product (R104). -/
def mulBits (n : Nat) (a b : BitVec n) : BitVec n := a * b

/-- OR (R106). -/
def orBits (n : Nat) (a b : BitVec n) : BitVec n := a ||| b

/-- AND (R107). -/
def andBits (n : Nat) (a b : BitVec n) : BitVec n := a &&& b

/-- LSH: the amount is `b & (W - 1)` (R108). -/
def lshBits (n : Nat) (a b : BitVec n) : BitVec n := a <<< (b &&& BitVec.ofNat n (n - 1)).toNat

/-- RSH: logical, the amount is `b & (W - 1)` (R109). -/
def rshBits (n : Nat) (a b : BitVec n) : BitVec n := a >>> (b &&& BitVec.ofNat n (n - 1)).toNat

/-- XOR (R112). -/
def xorBits (n : Nat) (a b : BitVec n) : BitVec n := a ^^^ b

/-- MOV: `b`; the destination's old value is not used (R113). -/
def movBits (n : Nat) (_a b : BitVec n) : BitVec n := b

/-- The action of a completed `ExecuteStep` on an interpreted arithmetic instruction (R101, R204, R205): both operands
are read before the destination is written (R118); when `dst`, or `src` under Source X, names no register, the step
raises `InvalidRegister` with nothing written. -/
def State.interpret (s : State) (w : Width) (f : (n : Nat) → BitVec n → BitVec n → BitVec n) (dst : RegField)
    (o : Operand) : Result :=
  match s.reg? dst, o.value s with
  | some a, some b => .next ((s.setReg dst (w.apply f a b)).completed 1)
  | some _, none => .next (s.raise .invalidRegister)
  | none, _ => .next (s.raise .invalidRegister)

end Sys2Proof.Machine
end

