-- ==== Sys2Proof/Machine/Alu.lean ====
section
/-! DEFINITION. The stepper's action on the arithmetic instructions, classes ALU and ALU64 (40_arithmetic.md): nine codes are interpreted, DIV, NEG, MOD,
ARSH and END are no-operations to the stepper (R101, R206, decision D26). What each prints is Machine/Render.lean. -/

namespace Sys2Proof.Machine

open Sys2Proof

/-- ALU_ADD_K, opcode 0x04 (R102, R101): `x[dst] <- zext_64(f(x[dst][31:0], Imm)) for f = ADD`, then `pc` advances by 1 (R207). -/
def execAluAddK (dst : RegField) (imm : ImmField) (s : State) : Result :=
  s.interpret .w32 addBits dst (.k imm)

/-- ALU_ADD_X, opcode 0x0c (R102, R101): `x[dst] <- zext_64(f(x[dst][31:0], x[src][31:0])) for f = ADD`, then `pc` advances by 1 (R207). -/
def execAluAddX (dst : RegField) (src : RegField) (s : State) : Result :=
  s.interpret .w32 addBits dst (.x src)

/-- ALU64_ADD_K, opcode 0x07 (R102, R101): `x[dst] <- f(x[dst], sext_64(Imm)) for f = ADD`, then `pc` advances by 1 (R207). -/
def execAlu64AddK (dst : RegField) (imm : ImmField) (s : State) : Result :=
  s.interpret .w64 addBits dst (.k imm)

/-- ALU64_ADD_X, opcode 0x0f (R102, R101): `x[dst] <- f(x[dst], x[src]) for f = ADD`, then `pc` advances by 1 (R207). -/
def execAlu64AddX (dst : RegField) (src : RegField) (s : State) : Result :=
  s.interpret .w64 addBits dst (.x src)

/-- ALU_SUB_K, opcode 0x14 (R103, R101): `x[dst] <- zext_64(f(x[dst][31:0], Imm)) for f = SUB`, then `pc` advances by 1 (R207). -/
def execAluSubK (dst : RegField) (imm : ImmField) (s : State) : Result :=
  s.interpret .w32 subBits dst (.k imm)

/-- ALU_SUB_X, opcode 0x1c (R103, R101): `x[dst] <- zext_64(f(x[dst][31:0], x[src][31:0])) for f = SUB`, then `pc` advances by 1 (R207). -/
def execAluSubX (dst : RegField) (src : RegField) (s : State) : Result :=
  s.interpret .w32 subBits dst (.x src)

/-- ALU64_SUB_K, opcode 0x17 (R103, R101): `x[dst] <- f(x[dst], sext_64(Imm)) for f = SUB`, then `pc` advances by 1 (R207). -/
def execAlu64SubK (dst : RegField) (imm : ImmField) (s : State) : Result :=
  s.interpret .w64 subBits dst (.k imm)

/-- ALU64_SUB_X, opcode 0x1f (R103, R101): `x[dst] <- f(x[dst], x[src]) for f = SUB`, then `pc` advances by 1 (R207). -/
def execAlu64SubX (dst : RegField) (src : RegField) (s : State) : Result :=
  s.interpret .w64 subBits dst (.x src)

/-- ALU_MUL_K, opcode 0x24 (R104, R101): `x[dst] <- zext_64(f(x[dst][31:0], Imm)) for f = MUL`, then `pc` advances by 1 (R207). -/
def execAluMulK (dst : RegField) (imm : ImmField) (s : State) : Result :=
  s.interpret .w32 mulBits dst (.k imm)

/-- ALU_MUL_X, opcode 0x2c (R104, R101): `x[dst] <- zext_64(f(x[dst][31:0], x[src][31:0])) for f = MUL`, then `pc` advances by 1 (R207). -/
def execAluMulX (dst : RegField) (src : RegField) (s : State) : Result :=
  s.interpret .w32 mulBits dst (.x src)

/-- ALU64_MUL_K, opcode 0x27 (R104, R101): `x[dst] <- f(x[dst], sext_64(Imm)) for f = MUL`, then `pc` advances by 1 (R207). -/
def execAlu64MulK (dst : RegField) (imm : ImmField) (s : State) : Result :=
  s.interpret .w64 mulBits dst (.k imm)

/-- ALU64_MUL_X, opcode 0x2f (R104, R101): `x[dst] <- f(x[dst], x[src]) for f = MUL`, then `pc` advances by 1 (R207). -/
def execAlu64MulX (dst : RegField) (src : RegField) (s : State) : Result :=
  s.interpret .w64 mulBits dst (.x src)

/-- ALU_DIV_K_SRC0, opcode 0x34 (R105): a no-operation to the stepper (R101, R206); `pc` advances by 1 (R207). -/
def execAluDivKSrc0 (_dst : RegField) (s : State) : Result :=
  s.stepOver 1

/-- ALU_DIV_K, opcode 0x34 (R105): a no-operation to the stepper (R101, R206); `pc` advances by 1 (R207). -/
def execAluDivK (_dst : RegField) (_src : RegField) (_imm : ImmField) (s : State) : Result :=
  s.stepOver 1

/-- ALU_DIV_X_SRC0, opcode 0x3c (R105): a no-operation to the stepper (R101, R206); `pc` advances by 1 (R207). -/
def execAluDivXSrc0 (_dst : RegField) (s : State) : Result :=
  s.stepOver 1

/-- ALU_DIV_X, opcode 0x3c (R105): a no-operation to the stepper (R101, R206); `pc` advances by 1 (R207). -/
def execAluDivX (_dst : RegField) (_src : RegField) (s : State) : Result :=
  s.stepOver 1

/-- ALU64_DIV_K_SRC0, opcode 0x37 (R105): a no-operation to the stepper (R101, R206); `pc` advances by 1 (R207). -/
def execAlu64DivKSrc0 (_dst : RegField) (s : State) : Result :=
  s.stepOver 1

/-- ALU64_DIV_K, opcode 0x37 (R105): a no-operation to the stepper (R101, R206); `pc` advances by 1 (R207). -/
def execAlu64DivK (_dst : RegField) (_src : RegField) (_imm : ImmField) (s : State) : Result :=
  s.stepOver 1

/-- ALU64_DIV_X_SRC0, opcode 0x3f (R105): a no-operation to the stepper (R101, R206); `pc` advances by 1 (R207). -/
def execAlu64DivXSrc0 (_dst : RegField) (s : State) : Result :=
  s.stepOver 1

/-- ALU64_DIV_X, opcode 0x3f (R105): a no-operation to the stepper (R101, R206); `pc` advances by 1 (R207). -/
def execAlu64DivX (_dst : RegField) (_src : RegField) (s : State) : Result :=
  s.stepOver 1

/-- ALU_OR_K, opcode 0x44 (R106, R101): `x[dst] <- zext_64(f(x[dst][31:0], Imm)) for f = OR`, then `pc` advances by 1 (R207). -/
def execAluOrK (dst : RegField) (imm : ImmField) (s : State) : Result :=
  s.interpret .w32 orBits dst (.k imm)

/-- ALU_OR_X, opcode 0x4c (R106, R101): `x[dst] <- zext_64(f(x[dst][31:0], x[src][31:0])) for f = OR`, then `pc` advances by 1 (R207). -/
def execAluOrX (dst : RegField) (src : RegField) (s : State) : Result :=
  s.interpret .w32 orBits dst (.x src)

/-- ALU64_OR_K, opcode 0x47 (R106, R101): `x[dst] <- f(x[dst], sext_64(Imm)) for f = OR`, then `pc` advances by 1 (R207). -/
def execAlu64OrK (dst : RegField) (imm : ImmField) (s : State) : Result :=
  s.interpret .w64 orBits dst (.k imm)

/-- ALU64_OR_X, opcode 0x4f (R106, R101): `x[dst] <- f(x[dst], x[src]) for f = OR`, then `pc` advances by 1 (R207). -/
def execAlu64OrX (dst : RegField) (src : RegField) (s : State) : Result :=
  s.interpret .w64 orBits dst (.x src)

/-- ALU_AND_K, opcode 0x54 (R107, R101): `x[dst] <- zext_64(f(x[dst][31:0], Imm)) for f = AND`, then `pc` advances by 1 (R207). -/
def execAluAndK (dst : RegField) (imm : ImmField) (s : State) : Result :=
  s.interpret .w32 andBits dst (.k imm)

/-- ALU_AND_X, opcode 0x5c (R107, R101): `x[dst] <- zext_64(f(x[dst][31:0], x[src][31:0])) for f = AND`, then `pc` advances by 1 (R207). -/
def execAluAndX (dst : RegField) (src : RegField) (s : State) : Result :=
  s.interpret .w32 andBits dst (.x src)

/-- ALU64_AND_K, opcode 0x57 (R107, R101): `x[dst] <- f(x[dst], sext_64(Imm)) for f = AND`, then `pc` advances by 1 (R207). -/
def execAlu64AndK (dst : RegField) (imm : ImmField) (s : State) : Result :=
  s.interpret .w64 andBits dst (.k imm)

/-- ALU64_AND_X, opcode 0x5f (R107, R101): `x[dst] <- f(x[dst], x[src]) for f = AND`, then `pc` advances by 1 (R207). -/
def execAlu64AndX (dst : RegField) (src : RegField) (s : State) : Result :=
  s.interpret .w64 andBits dst (.x src)

/-- ALU_LSH_K, opcode 0x64 (R108, R101): `x[dst] <- zext_64(f(x[dst][31:0], Imm)) for f = LSH`, then `pc` advances by 1 (R207). -/
def execAluLshK (dst : RegField) (imm : ImmField) (s : State) : Result :=
  s.interpret .w32 lshBits dst (.k imm)

/-- ALU_LSH_X, opcode 0x6c (R108, R101): `x[dst] <- zext_64(f(x[dst][31:0], x[src][31:0])) for f = LSH`, then `pc` advances by 1 (R207). -/
def execAluLshX (dst : RegField) (src : RegField) (s : State) : Result :=
  s.interpret .w32 lshBits dst (.x src)

/-- ALU64_LSH_K, opcode 0x67 (R108, R101): `x[dst] <- f(x[dst], sext_64(Imm)) for f = LSH`, then `pc` advances by 1 (R207). -/
def execAlu64LshK (dst : RegField) (imm : ImmField) (s : State) : Result :=
  s.interpret .w64 lshBits dst (.k imm)

/-- ALU64_LSH_X, opcode 0x6f (R108, R101): `x[dst] <- f(x[dst], x[src]) for f = LSH`, then `pc` advances by 1 (R207). -/
def execAlu64LshX (dst : RegField) (src : RegField) (s : State) : Result :=
  s.interpret .w64 lshBits dst (.x src)

/-- ALU_RSH_K, opcode 0x74 (R109, R101): `x[dst] <- zext_64(f(x[dst][31:0], Imm)) for f = RSH`, then `pc` advances by 1 (R207). -/
def execAluRshK (dst : RegField) (imm : ImmField) (s : State) : Result :=
  s.interpret .w32 rshBits dst (.k imm)

/-- ALU_RSH_X, opcode 0x7c (R109, R101): `x[dst] <- zext_64(f(x[dst][31:0], x[src][31:0])) for f = RSH`, then `pc` advances by 1 (R207). -/
def execAluRshX (dst : RegField) (src : RegField) (s : State) : Result :=
  s.interpret .w32 rshBits dst (.x src)

/-- ALU64_RSH_K, opcode 0x77 (R109, R101): `x[dst] <- f(x[dst], sext_64(Imm)) for f = RSH`, then `pc` advances by 1 (R207). -/
def execAlu64RshK (dst : RegField) (imm : ImmField) (s : State) : Result :=
  s.interpret .w64 rshBits dst (.k imm)

/-- ALU64_RSH_X, opcode 0x7f (R109, R101): `x[dst] <- f(x[dst], x[src]) for f = RSH`, then `pc` advances by 1 (R207). -/
def execAlu64RshX (dst : RegField) (src : RegField) (s : State) : Result :=
  s.interpret .w64 rshBits dst (.x src)

/-- ALU_NEG_K, opcode 0x84 (R110): a no-operation to the stepper (R101, R206); `pc` advances by 1 (R207). -/
def execAluNegK (_dst : RegField) (_src : RegField) (s : State) : Result :=
  s.stepOver 1

/-- ALU_NEG_X, opcode 0x8c (R110): a no-operation to the stepper (R101, R206); `pc` advances by 1 (R207). -/
def execAluNegX (_dst : RegField) (_src : RegField) (s : State) : Result :=
  s.stepOver 1

/-- ALU64_NEG_K, opcode 0x87 (R110): a no-operation to the stepper (R101, R206); `pc` advances by 1 (R207). -/
def execAlu64NegK (_dst : RegField) (_src : RegField) (s : State) : Result :=
  s.stepOver 1

/-- ALU64_NEG_X, opcode 0x8f (R110): a no-operation to the stepper (R101, R206); `pc` advances by 1 (R207). -/
def execAlu64NegX (_dst : RegField) (_src : RegField) (s : State) : Result :=
  s.stepOver 1

/-- ALU_MOD_K_SRC0, opcode 0x94 (R111): a no-operation to the stepper (R101, R206); `pc` advances by 1 (R207). -/
def execAluModKSrc0 (_dst : RegField) (s : State) : Result :=
  s.stepOver 1

/-- ALU_MOD_K, opcode 0x94 (R111): a no-operation to the stepper (R101, R206); `pc` advances by 1 (R207). -/
def execAluModK (_dst : RegField) (_src : RegField) (_imm : ImmField) (s : State) : Result :=
  s.stepOver 1

/-- ALU_MOD_X_SRC0, opcode 0x9c (R111): a no-operation to the stepper (R101, R206); `pc` advances by 1 (R207). -/
def execAluModXSrc0 (_dst : RegField) (s : State) : Result :=
  s.stepOver 1

/-- ALU_MOD_X, opcode 0x9c (R111): a no-operation to the stepper (R101, R206); `pc` advances by 1 (R207). -/
def execAluModX (_dst : RegField) (_src : RegField) (s : State) : Result :=
  s.stepOver 1

/-- ALU64_MOD_K_SRC0, opcode 0x97 (R111): a no-operation to the stepper (R101, R206); `pc` advances by 1 (R207). -/
def execAlu64ModKSrc0 (_dst : RegField) (s : State) : Result :=
  s.stepOver 1

/-- ALU64_MOD_K, opcode 0x97 (R111): a no-operation to the stepper (R101, R206); `pc` advances by 1 (R207). -/
def execAlu64ModK (_dst : RegField) (_src : RegField) (_imm : ImmField) (s : State) : Result :=
  s.stepOver 1

/-- ALU64_MOD_X_SRC0, opcode 0x9f (R111): a no-operation to the stepper (R101, R206); `pc` advances by 1 (R207). -/
def execAlu64ModXSrc0 (_dst : RegField) (s : State) : Result :=
  s.stepOver 1

/-- ALU64_MOD_X, opcode 0x9f (R111): a no-operation to the stepper (R101, R206); `pc` advances by 1 (R207). -/
def execAlu64ModX (_dst : RegField) (_src : RegField) (s : State) : Result :=
  s.stepOver 1

/-- ALU_XOR_K, opcode 0xa4 (R112, R101): `x[dst] <- zext_64(f(x[dst][31:0], Imm)) for f = XOR`, then `pc` advances by 1 (R207). -/
def execAluXorK (dst : RegField) (imm : ImmField) (s : State) : Result :=
  s.interpret .w32 xorBits dst (.k imm)

/-- ALU_XOR_X, opcode 0xac (R112, R101): `x[dst] <- zext_64(f(x[dst][31:0], x[src][31:0])) for f = XOR`, then `pc` advances by 1 (R207). -/
def execAluXorX (dst : RegField) (src : RegField) (s : State) : Result :=
  s.interpret .w32 xorBits dst (.x src)

/-- ALU64_XOR_K, opcode 0xa7 (R112, R101): `x[dst] <- f(x[dst], sext_64(Imm)) for f = XOR`, then `pc` advances by 1 (R207). -/
def execAlu64XorK (dst : RegField) (imm : ImmField) (s : State) : Result :=
  s.interpret .w64 xorBits dst (.k imm)

/-- ALU64_XOR_X, opcode 0xaf (R112, R101): `x[dst] <- f(x[dst], x[src]) for f = XOR`, then `pc` advances by 1 (R207). -/
def execAlu64XorX (dst : RegField) (src : RegField) (s : State) : Result :=
  s.interpret .w64 xorBits dst (.x src)

/-- ALU_MOV_K, opcode 0xb4 (R113, R101): `x[dst] <- zext_64(f(x[dst][31:0], Imm)) for f = MOV`, then `pc` advances by 1 (R207). -/
def execAluMovK (dst : RegField) (imm : ImmField) (s : State) : Result :=
  s.interpret .w32 movBits dst (.k imm)

/-- ALU_MOV_X, opcode 0xbc (R113, R101): `x[dst] <- zext_64(f(x[dst][31:0], x[src][31:0])) for f = MOV`, then `pc` advances by 1 (R207). -/
def execAluMovX (dst : RegField) (src : RegField) (s : State) : Result :=
  s.interpret .w32 movBits dst (.x src)

/-- ALU64_MOV_K, opcode 0xb7 (R113, R101): `x[dst] <- f(x[dst], sext_64(Imm)) for f = MOV`, then `pc` advances by 1 (R207). -/
def execAlu64MovK (dst : RegField) (imm : ImmField) (s : State) : Result :=
  s.interpret .w64 movBits dst (.k imm)

/-- ALU64_MOV_X, opcode 0xbf (R113, R101): `x[dst] <- f(x[dst], x[src]) for f = MOV`, then `pc` advances by 1 (R207). -/
def execAlu64MovX (dst : RegField) (src : RegField) (s : State) : Result :=
  s.interpret .w64 movBits dst (.x src)

/-- ALU_ARSH_K, opcode 0xc4 (R114): a no-operation to the stepper (R101, R206); `pc` advances by 1 (R207). -/
def execAluArshK (_dst : RegField) (_imm : ImmField) (s : State) : Result :=
  s.stepOver 1

/-- ALU_ARSH_X, opcode 0xcc (R114): a no-operation to the stepper (R101, R206); `pc` advances by 1 (R207). -/
def execAluArshX (_dst : RegField) (_src : RegField) (s : State) : Result :=
  s.stepOver 1

/-- ALU64_ARSH_K, opcode 0xc7 (R114): a no-operation to the stepper (R101, R206); `pc` advances by 1 (R207). -/
def execAlu64ArshK (_dst : RegField) (_imm : ImmField) (s : State) : Result :=
  s.stepOver 1

/-- ALU64_ARSH_X, opcode 0xcf (R114): a no-operation to the stepper (R101, R206); `pc` advances by 1 (R207). -/
def execAlu64ArshX (_dst : RegField) (_src : RegField) (s : State) : Result :=
  s.stepOver 1

/-- ALU_END_K, opcode 0xd4 (R115): a no-operation to the stepper (R101, R206); `pc` advances by 1 (R207). -/
def execAluEndK (s : State) : Result :=
  s.stepOver 1

/-- ALU_END_X, opcode 0xdc (R115): a no-operation to the stepper (R101, R206); `pc` advances by 1 (R207). -/
def execAluEndX (s : State) : Result :=
  s.stepOver 1

/-- ALU64_END_K, opcode 0xd7 (R115): a no-operation to the stepper (R101, R206); `pc` advances by 1 (R207). -/
def execAlu64EndK (s : State) : Result :=
  s.stepOver 1

/-- ALU64_END_X, opcode 0xdf (R115): a no-operation to the stepper (R101, R206); `pc` advances by 1 (R207). -/
def execAlu64EndX (s : State) : Result :=
  s.stepOver 1

end Sys2Proof.Machine
end

