-- ==== Sys2Proof/Machine/Jump.lean ====
section
/-! DEFINITION. The stepper's action on the jump, call and exit instructions, classes JMP and JMP32 (41_jump.md): the stepper takes no jump, calls nothing and
does not halt on EXIT; every one advances `pc` by 1 (R146, R206). What each prints is Machine/Render.lean. -/

namespace Sys2Proof.Machine

open Sys2Proof

/-- JMP_JA_K, opcode 0x05 (R131): a no-operation to the stepper (R146, R206); `pc` advances by 1 (R207). -/
def execJmpJaK (_off : OffField) (s : State) : Result :=
  s.stepOver 1

/-- JMP_JA_X, opcode 0x0d (R131): a no-operation to the stepper (R146, R206); `pc` advances by 1 (R207). -/
def execJmpJaX (_off : OffField) (s : State) : Result :=
  s.stepOver 1

/-- JMP32_JA_K, opcode 0x06 (R131): a no-operation to the stepper (R146, R206); `pc` advances by 1 (R207). -/
def execJmp32JaK (_off : OffField) (s : State) : Result :=
  s.stepOver 1

/-- JMP32_JA_X, opcode 0x0e (R131): a no-operation to the stepper (R146, R206); `pc` advances by 1 (R207). -/
def execJmp32JaX (_off : OffField) (s : State) : Result :=
  s.stepOver 1

/-- JMP_JEQ_K, opcode 0x15 (R132): a no-operation to the stepper (R146, R206); `pc` advances by 1 (R207). -/
def execJmpJeqK (_dst : RegField) (_off : OffField) (_imm : ImmField) (s : State) : Result :=
  s.stepOver 1

/-- JMP_JEQ_X, opcode 0x1d (R132): a no-operation to the stepper (R146, R206); `pc` advances by 1 (R207). -/
def execJmpJeqX (_dst : RegField) (_src : RegField) (_off : OffField) (s : State) : Result :=
  s.stepOver 1

/-- JMP32_JEQ_K, opcode 0x16 (R132): a no-operation to the stepper (R146, R206); `pc` advances by 1 (R207). -/
def execJmp32JeqK (_dst : RegField) (_off : OffField) (_imm : ImmField) (s : State) : Result :=
  s.stepOver 1

/-- JMP32_JEQ_X, opcode 0x1e (R132): a no-operation to the stepper (R146, R206); `pc` advances by 1 (R207). -/
def execJmp32JeqX (_dst : RegField) (_src : RegField) (_off : OffField) (s : State) : Result :=
  s.stepOver 1

/-- JMP_JGT_K, opcode 0x25 (R133): a no-operation to the stepper (R146, R206); `pc` advances by 1 (R207). -/
def execJmpJgtK (_dst : RegField) (_off : OffField) (_imm : ImmField) (s : State) : Result :=
  s.stepOver 1

/-- JMP_JGT_X, opcode 0x2d (R133): a no-operation to the stepper (R146, R206); `pc` advances by 1 (R207). -/
def execJmpJgtX (_dst : RegField) (_src : RegField) (_off : OffField) (s : State) : Result :=
  s.stepOver 1

/-- JMP32_JGT_K, opcode 0x26 (R133): a no-operation to the stepper (R146, R206); `pc` advances by 1 (R207). -/
def execJmp32JgtK (_dst : RegField) (_off : OffField) (_imm : ImmField) (s : State) : Result :=
  s.stepOver 1

/-- JMP32_JGT_X, opcode 0x2e (R133): a no-operation to the stepper (R146, R206); `pc` advances by 1 (R207). -/
def execJmp32JgtX (_dst : RegField) (_src : RegField) (_off : OffField) (s : State) : Result :=
  s.stepOver 1

/-- JMP_JGE_K, opcode 0x35 (R134): a no-operation to the stepper (R146, R206); `pc` advances by 1 (R207). -/
def execJmpJgeK (_dst : RegField) (_off : OffField) (_imm : ImmField) (s : State) : Result :=
  s.stepOver 1

/-- JMP_JGE_X, opcode 0x3d (R134): a no-operation to the stepper (R146, R206); `pc` advances by 1 (R207). -/
def execJmpJgeX (_dst : RegField) (_src : RegField) (_off : OffField) (s : State) : Result :=
  s.stepOver 1

/-- JMP32_JGE_K, opcode 0x36 (R134): a no-operation to the stepper (R146, R206); `pc` advances by 1 (R207). -/
def execJmp32JgeK (_dst : RegField) (_off : OffField) (_imm : ImmField) (s : State) : Result :=
  s.stepOver 1

/-- JMP32_JGE_X, opcode 0x3e (R134): a no-operation to the stepper (R146, R206); `pc` advances by 1 (R207). -/
def execJmp32JgeX (_dst : RegField) (_src : RegField) (_off : OffField) (s : State) : Result :=
  s.stepOver 1

/-- JMP_JSET_K, opcode 0x45 (R135): a no-operation to the stepper (R146, R206); `pc` advances by 1 (R207). -/
def execJmpJsetK (_dst : RegField) (_off : OffField) (_imm : ImmField) (s : State) : Result :=
  s.stepOver 1

/-- JMP_JSET_X, opcode 0x4d (R135): a no-operation to the stepper (R146, R206); `pc` advances by 1 (R207). -/
def execJmpJsetX (_dst : RegField) (_src : RegField) (_off : OffField) (s : State) : Result :=
  s.stepOver 1

/-- JMP32_JSET_K, opcode 0x46 (R135): a no-operation to the stepper (R146, R206); `pc` advances by 1 (R207). -/
def execJmp32JsetK (_dst : RegField) (_off : OffField) (_imm : ImmField) (s : State) : Result :=
  s.stepOver 1

/-- JMP32_JSET_X, opcode 0x4e (R135): a no-operation to the stepper (R146, R206); `pc` advances by 1 (R207). -/
def execJmp32JsetX (_dst : RegField) (_src : RegField) (_off : OffField) (s : State) : Result :=
  s.stepOver 1

/-- JMP_JNE_K, opcode 0x55 (R136): a no-operation to the stepper (R146, R206); `pc` advances by 1 (R207). -/
def execJmpJneK (_dst : RegField) (_off : OffField) (_imm : ImmField) (s : State) : Result :=
  s.stepOver 1

/-- JMP_JNE_X, opcode 0x5d (R136): a no-operation to the stepper (R146, R206); `pc` advances by 1 (R207). -/
def execJmpJneX (_dst : RegField) (_src : RegField) (_off : OffField) (s : State) : Result :=
  s.stepOver 1

/-- JMP32_JNE_K, opcode 0x56 (R136): a no-operation to the stepper (R146, R206); `pc` advances by 1 (R207). -/
def execJmp32JneK (_dst : RegField) (_off : OffField) (_imm : ImmField) (s : State) : Result :=
  s.stepOver 1

/-- JMP32_JNE_X, opcode 0x5e (R136): a no-operation to the stepper (R146, R206); `pc` advances by 1 (R207). -/
def execJmp32JneX (_dst : RegField) (_src : RegField) (_off : OffField) (s : State) : Result :=
  s.stepOver 1

/-- JMP_JSGT_K, opcode 0x65 (R137): a no-operation to the stepper (R146, R206); `pc` advances by 1 (R207). -/
def execJmpJsgtK (_dst : RegField) (_off : OffField) (_imm : ImmField) (s : State) : Result :=
  s.stepOver 1

/-- JMP_JSGT_X, opcode 0x6d (R137): a no-operation to the stepper (R146, R206); `pc` advances by 1 (R207). -/
def execJmpJsgtX (_dst : RegField) (_src : RegField) (_off : OffField) (s : State) : Result :=
  s.stepOver 1

/-- JMP32_JSGT_K, opcode 0x66 (R137): a no-operation to the stepper (R146, R206); `pc` advances by 1 (R207). -/
def execJmp32JsgtK (_dst : RegField) (_off : OffField) (_imm : ImmField) (s : State) : Result :=
  s.stepOver 1

/-- JMP32_JSGT_X, opcode 0x6e (R137): a no-operation to the stepper (R146, R206); `pc` advances by 1 (R207). -/
def execJmp32JsgtX (_dst : RegField) (_src : RegField) (_off : OffField) (s : State) : Result :=
  s.stepOver 1

/-- JMP_JSGE_K, opcode 0x75 (R138): a no-operation to the stepper (R146, R206); `pc` advances by 1 (R207). -/
def execJmpJsgeK (_dst : RegField) (_off : OffField) (_imm : ImmField) (s : State) : Result :=
  s.stepOver 1

/-- JMP_JSGE_X, opcode 0x7d (R138): a no-operation to the stepper (R146, R206); `pc` advances by 1 (R207). -/
def execJmpJsgeX (_dst : RegField) (_src : RegField) (_off : OffField) (s : State) : Result :=
  s.stepOver 1

/-- JMP32_JSGE_K, opcode 0x76 (R138): a no-operation to the stepper (R146, R206); `pc` advances by 1 (R207). -/
def execJmp32JsgeK (_dst : RegField) (_off : OffField) (_imm : ImmField) (s : State) : Result :=
  s.stepOver 1

/-- JMP32_JSGE_X, opcode 0x7e (R138): a no-operation to the stepper (R146, R206); `pc` advances by 1 (R207). -/
def execJmp32JsgeX (_dst : RegField) (_src : RegField) (_off : OffField) (s : State) : Result :=
  s.stepOver 1

/-- JMP_CALL_K_SEL0, opcode 0x85 (R143): a no-operation to the stepper (R146, R206); `pc` advances by 1 (R207). -/
def execJmpCallKSel0 (_imm : ImmField) (s : State) : Result :=
  s.stepOver 1

/-- JMP_CALL_K_SEL1, opcode 0x85 (R143): a no-operation to the stepper (R146, R206); `pc` advances by 1 (R207). -/
def execJmpCallKSel1 (_off : OffField) (s : State) : Result :=
  s.stepOver 1

/-- JMP_CALL_K_SEL2, opcode 0x85 (R143): a no-operation to the stepper (R146, R206); `pc` advances by 1 (R207). -/
def execJmpCallKSel2 (_imm : ImmField) (s : State) : Result :=
  s.stepOver 1

/-- JMP_CALL_X_SEL0, opcode 0x8d (R143): a no-operation to the stepper (R146, R206); `pc` advances by 1 (R207). -/
def execJmpCallXSel0 (_imm : ImmField) (s : State) : Result :=
  s.stepOver 1

/-- JMP_CALL_X_SEL1, opcode 0x8d (R143): a no-operation to the stepper (R146, R206); `pc` advances by 1 (R207). -/
def execJmpCallXSel1 (_off : OffField) (s : State) : Result :=
  s.stepOver 1

/-- JMP_CALL_X_SEL2, opcode 0x8d (R143): a no-operation to the stepper (R146, R206); `pc` advances by 1 (R207). -/
def execJmpCallXSel2 (_imm : ImmField) (s : State) : Result :=
  s.stepOver 1

/-- JMP32_CALL_K_SEL0, opcode 0x86 (R143): a no-operation to the stepper (R146, R206); `pc` advances by 1 (R207). -/
def execJmp32CallKSel0 (_imm : ImmField) (s : State) : Result :=
  s.stepOver 1

/-- JMP32_CALL_K_SEL1, opcode 0x86 (R143): a no-operation to the stepper (R146, R206); `pc` advances by 1 (R207). -/
def execJmp32CallKSel1 (_off : OffField) (s : State) : Result :=
  s.stepOver 1

/-- JMP32_CALL_K_SEL2, opcode 0x86 (R143): a no-operation to the stepper (R146, R206); `pc` advances by 1 (R207). -/
def execJmp32CallKSel2 (_imm : ImmField) (s : State) : Result :=
  s.stepOver 1

/-- JMP32_CALL_X_SEL0, opcode 0x8e (R143): a no-operation to the stepper (R146, R206); `pc` advances by 1 (R207). -/
def execJmp32CallXSel0 (_imm : ImmField) (s : State) : Result :=
  s.stepOver 1

/-- JMP32_CALL_X_SEL1, opcode 0x8e (R143): a no-operation to the stepper (R146, R206); `pc` advances by 1 (R207). -/
def execJmp32CallXSel1 (_off : OffField) (s : State) : Result :=
  s.stepOver 1

/-- JMP32_CALL_X_SEL2, opcode 0x8e (R143): a no-operation to the stepper (R146, R206); `pc` advances by 1 (R207). -/
def execJmp32CallXSel2 (_imm : ImmField) (s : State) : Result :=
  s.stepOver 1

/-- JMP_EXIT_K, opcode 0x95 (R144): a no-operation to the stepper (R146, R206); `pc` advances by 1 (R207). -/
def execJmpExitK (s : State) : Result :=
  s.stepOver 1

/-- JMP_EXIT_X, opcode 0x9d (R144): a no-operation to the stepper (R146, R206); `pc` advances by 1 (R207). -/
def execJmpExitX (s : State) : Result :=
  s.stepOver 1

/-- JMP32_EXIT_K, opcode 0x96 (R144): a no-operation to the stepper (R146, R206); `pc` advances by 1 (R207). -/
def execJmp32ExitK (s : State) : Result :=
  s.stepOver 1

/-- JMP32_EXIT_X, opcode 0x9e (R144): a no-operation to the stepper (R146, R206); `pc` advances by 1 (R207). -/
def execJmp32ExitX (s : State) : Result :=
  s.stepOver 1

/-- JMP_JLT_K, opcode 0xa5 (R139): a no-operation to the stepper (R146, R206); `pc` advances by 1 (R207). -/
def execJmpJltK (_dst : RegField) (_off : OffField) (_imm : ImmField) (s : State) : Result :=
  s.stepOver 1

/-- JMP_JLT_X, opcode 0xad (R139): a no-operation to the stepper (R146, R206); `pc` advances by 1 (R207). -/
def execJmpJltX (_dst : RegField) (_src : RegField) (_off : OffField) (s : State) : Result :=
  s.stepOver 1

/-- JMP32_JLT_K, opcode 0xa6 (R139): a no-operation to the stepper (R146, R206); `pc` advances by 1 (R207). -/
def execJmp32JltK (_dst : RegField) (_off : OffField) (_imm : ImmField) (s : State) : Result :=
  s.stepOver 1

/-- JMP32_JLT_X, opcode 0xae (R139): a no-operation to the stepper (R146, R206); `pc` advances by 1 (R207). -/
def execJmp32JltX (_dst : RegField) (_src : RegField) (_off : OffField) (s : State) : Result :=
  s.stepOver 1

/-- JMP_JLE_K, opcode 0xb5 (R140): a no-operation to the stepper (R146, R206); `pc` advances by 1 (R207). -/
def execJmpJleK (_dst : RegField) (_off : OffField) (_imm : ImmField) (s : State) : Result :=
  s.stepOver 1

/-- JMP_JLE_X, opcode 0xbd (R140): a no-operation to the stepper (R146, R206); `pc` advances by 1 (R207). -/
def execJmpJleX (_dst : RegField) (_src : RegField) (_off : OffField) (s : State) : Result :=
  s.stepOver 1

/-- JMP32_JLE_K, opcode 0xb6 (R140): a no-operation to the stepper (R146, R206); `pc` advances by 1 (R207). -/
def execJmp32JleK (_dst : RegField) (_off : OffField) (_imm : ImmField) (s : State) : Result :=
  s.stepOver 1

/-- JMP32_JLE_X, opcode 0xbe (R140): a no-operation to the stepper (R146, R206); `pc` advances by 1 (R207). -/
def execJmp32JleX (_dst : RegField) (_src : RegField) (_off : OffField) (s : State) : Result :=
  s.stepOver 1

/-- JMP_JSLT_K, opcode 0xc5 (R141): a no-operation to the stepper (R146, R206); `pc` advances by 1 (R207). -/
def execJmpJsltK (_dst : RegField) (_off : OffField) (_imm : ImmField) (s : State) : Result :=
  s.stepOver 1

/-- JMP_JSLT_X, opcode 0xcd (R141): a no-operation to the stepper (R146, R206); `pc` advances by 1 (R207). -/
def execJmpJsltX (_dst : RegField) (_src : RegField) (_off : OffField) (s : State) : Result :=
  s.stepOver 1

/-- JMP32_JSLT_K, opcode 0xc6 (R141): a no-operation to the stepper (R146, R206); `pc` advances by 1 (R207). -/
def execJmp32JsltK (_dst : RegField) (_off : OffField) (_imm : ImmField) (s : State) : Result :=
  s.stepOver 1

/-- JMP32_JSLT_X, opcode 0xce (R141): a no-operation to the stepper (R146, R206); `pc` advances by 1 (R207). -/
def execJmp32JsltX (_dst : RegField) (_src : RegField) (_off : OffField) (s : State) : Result :=
  s.stepOver 1

/-- JMP_JSLE_K, opcode 0xd5 (R142): a no-operation to the stepper (R146, R206); `pc` advances by 1 (R207). -/
def execJmpJsleK (_dst : RegField) (_off : OffField) (_imm : ImmField) (s : State) : Result :=
  s.stepOver 1

/-- JMP_JSLE_X, opcode 0xdd (R142): a no-operation to the stepper (R146, R206); `pc` advances by 1 (R207). -/
def execJmpJsleX (_dst : RegField) (_src : RegField) (_off : OffField) (s : State) : Result :=
  s.stepOver 1

/-- JMP32_JSLE_K, opcode 0xd6 (R142): a no-operation to the stepper (R146, R206); `pc` advances by 1 (R207). -/
def execJmp32JsleK (_dst : RegField) (_off : OffField) (_imm : ImmField) (s : State) : Result :=
  s.stepOver 1

/-- JMP32_JSLE_X, opcode 0xde (R142): a no-operation to the stepper (R146, R206); `pc` advances by 1 (R207). -/
def execJmp32JsleX (_dst : RegField) (_src : RegField) (_off : OffField) (s : State) : Result :=
  s.stepOver 1

end Sys2Proof.Machine
end

