-- ==== Sys2Proof/Machine/LoadStore.lean ====
section
/-! DEFINITION. The stepper's action on the load, store and atomic instructions (42_load_store.md): no register is read or written, no memory exists, and `pc`
advances by 1, or by 2 for the extended immediate loads (R187, R206). What each prints is Machine/Render.lean. -/

namespace Sys2Proof.Machine

open Sys2Proof

/-- LD_IMM_LITERAL64, opcodes 0x00-0x03, 0x08-0x0b, 0x10-0x13, 0x18-0x1b (R161): a no-operation to the stepper (R187, R206); `pc` advances by 2 (R207). -/
def execLdImmLiteral64 (_cls : LSClass) (_size : Size) (_dst : RegField) (_imm : ImmField) (_nextImm : ImmField) (s : State) : Result :=
  s.stepOver 2

/-- LD_IMM_MAP_BY_FD, opcodes 0x00-0x03, 0x08-0x0b, 0x10-0x13, 0x18-0x1b (R162): a no-operation to the stepper (R187, R206); `pc` advances by 2 (R207). -/
def execLdImmMapByFd (_cls : LSClass) (_size : Size) (_dst : RegField) (_imm : ImmField) (_nextImm : ImmField) (s : State) : Result :=
  s.stepOver 2

/-- LD_IMM_MAP_VAL_BY_FD, opcodes 0x00-0x03, 0x08-0x0b, 0x10-0x13, 0x18-0x1b (R163): a no-operation to the stepper (R187, R206); `pc` advances by 2 (R207). -/
def execLdImmMapValByFd (_cls : LSClass) (_size : Size) (_dst : RegField) (_imm : ImmField) (_nextImm : ImmField) (s : State) : Result :=
  s.stepOver 2

/-- LD_IMM_VAR_ADDR, opcodes 0x00-0x03, 0x08-0x0b, 0x10-0x13, 0x18-0x1b (R164): a no-operation to the stepper (R187, R206); `pc` advances by 2 (R207). -/
def execLdImmVarAddr (_cls : LSClass) (_size : Size) (_dst : RegField) (_imm : ImmField) (_nextImm : ImmField) (s : State) : Result :=
  s.stepOver 2

/-- LD_IMM_CODE_ADDR, opcodes 0x00-0x03, 0x08-0x0b, 0x10-0x13, 0x18-0x1b (R165): a no-operation to the stepper (R187, R206); `pc` advances by 2 (R207). -/
def execLdImmCodeAddr (_cls : LSClass) (_size : Size) (_dst : RegField) (_imm : ImmField) (_nextImm : ImmField) (s : State) : Result :=
  s.stepOver 2

/-- LD_IMM_MAP_BY_IDX, opcodes 0x00-0x03, 0x08-0x0b, 0x10-0x13, 0x18-0x1b (R166): a no-operation to the stepper (R187, R206); `pc` advances by 2 (R207). -/
def execLdImmMapByIdx (_cls : LSClass) (_size : Size) (_dst : RegField) (_imm : ImmField) (_nextImm : ImmField) (s : State) : Result :=
  s.stepOver 2

/-- LD_IMM_MAP_VAL_BY_IDX, opcodes 0x00-0x03, 0x08-0x0b, 0x10-0x13, 0x18-0x1b (R167): a no-operation to the stepper (R187, R206); `pc` advances by 2 (R207). -/
def execLdImmMapValByIdx (_cls : LSClass) (_size : Size) (_dst : RegField) (_imm : ImmField) (_nextImm : ImmField) (s : State) : Result :=
  s.stepOver 2

/-- LD_ABS_W, opcode 0x20 (R169): a no-operation to the stepper (R187, R206); `pc` advances by 1 (R207). -/
def execLdAbsW (s : State) : Result :=
  s.stepOver 1

/-- LDX_ABS_W, opcode 0x21 (R169): a no-operation to the stepper (R187, R206); `pc` advances by 1 (R207). -/
def execLdxAbsW (s : State) : Result :=
  s.stepOver 1

/-- ST_ABS_W, opcode 0x22 (R169): a no-operation to the stepper (R187, R206); `pc` advances by 1 (R207). -/
def execStAbsW (s : State) : Result :=
  s.stepOver 1

/-- STX_ABS_W, opcode 0x23 (R169): a no-operation to the stepper (R187, R206); `pc` advances by 1 (R207). -/
def execStxAbsW (s : State) : Result :=
  s.stepOver 1

/-- LD_ABS_H, opcode 0x28 (R169): a no-operation to the stepper (R187, R206); `pc` advances by 1 (R207). -/
def execLdAbsH (s : State) : Result :=
  s.stepOver 1

/-- LDX_ABS_H, opcode 0x29 (R169): a no-operation to the stepper (R187, R206); `pc` advances by 1 (R207). -/
def execLdxAbsH (s : State) : Result :=
  s.stepOver 1

/-- ST_ABS_H, opcode 0x2a (R169): a no-operation to the stepper (R187, R206); `pc` advances by 1 (R207). -/
def execStAbsH (s : State) : Result :=
  s.stepOver 1

/-- STX_ABS_H, opcode 0x2b (R169): a no-operation to the stepper (R187, R206); `pc` advances by 1 (R207). -/
def execStxAbsH (s : State) : Result :=
  s.stepOver 1

/-- LD_ABS_B, opcode 0x30 (R169): a no-operation to the stepper (R187, R206); `pc` advances by 1 (R207). -/
def execLdAbsB (s : State) : Result :=
  s.stepOver 1

/-- LDX_ABS_B, opcode 0x31 (R169): a no-operation to the stepper (R187, R206); `pc` advances by 1 (R207). -/
def execLdxAbsB (s : State) : Result :=
  s.stepOver 1

/-- ST_ABS_B, opcode 0x32 (R169): a no-operation to the stepper (R187, R206); `pc` advances by 1 (R207). -/
def execStAbsB (s : State) : Result :=
  s.stepOver 1

/-- STX_ABS_B, opcode 0x33 (R169): a no-operation to the stepper (R187, R206); `pc` advances by 1 (R207). -/
def execStxAbsB (s : State) : Result :=
  s.stepOver 1

/-- LD_ABS_DW, opcode 0x38 (R169): a no-operation to the stepper (R187, R206); `pc` advances by 1 (R207). -/
def execLdAbsDw (s : State) : Result :=
  s.stepOver 1

/-- LDX_ABS_DW, opcode 0x39 (R169): a no-operation to the stepper (R187, R206); `pc` advances by 1 (R207). -/
def execLdxAbsDw (s : State) : Result :=
  s.stepOver 1

/-- ST_ABS_DW, opcode 0x3a (R169): a no-operation to the stepper (R187, R206); `pc` advances by 1 (R207). -/
def execStAbsDw (s : State) : Result :=
  s.stepOver 1

/-- STX_ABS_DW, opcode 0x3b (R169): a no-operation to the stepper (R187, R206); `pc` advances by 1 (R207). -/
def execStxAbsDw (s : State) : Result :=
  s.stepOver 1

/-- LD_IND_W, opcode 0x40 (R170): a no-operation to the stepper (R187, R206); `pc` advances by 1 (R207). -/
def execLdIndW (s : State) : Result :=
  s.stepOver 1

/-- LDX_IND_W, opcode 0x41 (R170): a no-operation to the stepper (R187, R206); `pc` advances by 1 (R207). -/
def execLdxIndW (s : State) : Result :=
  s.stepOver 1

/-- ST_IND_W, opcode 0x42 (R170): a no-operation to the stepper (R187, R206); `pc` advances by 1 (R207). -/
def execStIndW (s : State) : Result :=
  s.stepOver 1

/-- STX_IND_W, opcode 0x43 (R170): a no-operation to the stepper (R187, R206); `pc` advances by 1 (R207). -/
def execStxIndW (s : State) : Result :=
  s.stepOver 1

/-- LD_IND_H, opcode 0x48 (R170): a no-operation to the stepper (R187, R206); `pc` advances by 1 (R207). -/
def execLdIndH (s : State) : Result :=
  s.stepOver 1

/-- LDX_IND_H, opcode 0x49 (R170): a no-operation to the stepper (R187, R206); `pc` advances by 1 (R207). -/
def execLdxIndH (s : State) : Result :=
  s.stepOver 1

/-- ST_IND_H, opcode 0x4a (R170): a no-operation to the stepper (R187, R206); `pc` advances by 1 (R207). -/
def execStIndH (s : State) : Result :=
  s.stepOver 1

/-- STX_IND_H, opcode 0x4b (R170): a no-operation to the stepper (R187, R206); `pc` advances by 1 (R207). -/
def execStxIndH (s : State) : Result :=
  s.stepOver 1

/-- LD_IND_B, opcode 0x50 (R170): a no-operation to the stepper (R187, R206); `pc` advances by 1 (R207). -/
def execLdIndB (s : State) : Result :=
  s.stepOver 1

/-- LDX_IND_B, opcode 0x51 (R170): a no-operation to the stepper (R187, R206); `pc` advances by 1 (R207). -/
def execLdxIndB (s : State) : Result :=
  s.stepOver 1

/-- ST_IND_B, opcode 0x52 (R170): a no-operation to the stepper (R187, R206); `pc` advances by 1 (R207). -/
def execStIndB (s : State) : Result :=
  s.stepOver 1

/-- STX_IND_B, opcode 0x53 (R170): a no-operation to the stepper (R187, R206); `pc` advances by 1 (R207). -/
def execStxIndB (s : State) : Result :=
  s.stepOver 1

/-- LD_IND_DW, opcode 0x58 (R170): a no-operation to the stepper (R187, R206); `pc` advances by 1 (R207). -/
def execLdIndDw (s : State) : Result :=
  s.stepOver 1

/-- LDX_IND_DW, opcode 0x59 (R170): a no-operation to the stepper (R187, R206); `pc` advances by 1 (R207). -/
def execLdxIndDw (s : State) : Result :=
  s.stepOver 1

/-- ST_IND_DW, opcode 0x5a (R170): a no-operation to the stepper (R187, R206); `pc` advances by 1 (R207). -/
def execStIndDw (s : State) : Result :=
  s.stepOver 1

/-- STX_IND_DW, opcode 0x5b (R170): a no-operation to the stepper (R187, R206); `pc` advances by 1 (R207). -/
def execStxIndDw (s : State) : Result :=
  s.stepOver 1

/-- LDX_MEM_W, opcode 0x61 (R171): a no-operation to the stepper (R187, R206); `pc` advances by 1 (R207). -/
def execLdxMemW (_dst : RegField) (_src : RegField) (_off : OffField) (s : State) : Result :=
  s.stepOver 1

/-- ST_MEM_W, opcode 0x62 (R172): a no-operation to the stepper (R187, R206); `pc` advances by 1 (R207). -/
def execStMemW (_dst : RegField) (_off : OffField) (_imm : ImmField) (s : State) : Result :=
  s.stepOver 1

/-- STX_MEM_W, opcode 0x63 (R173): a no-operation to the stepper (R187, R206); `pc` advances by 1 (R207). -/
def execStxMemW (_dst : RegField) (_src : RegField) (_off : OffField) (s : State) : Result :=
  s.stepOver 1

/-- LDX_MEM_H, opcode 0x69 (R171): a no-operation to the stepper (R187, R206); `pc` advances by 1 (R207). -/
def execLdxMemH (_dst : RegField) (_src : RegField) (_off : OffField) (s : State) : Result :=
  s.stepOver 1

/-- ST_MEM_H, opcode 0x6a (R172): a no-operation to the stepper (R187, R206); `pc` advances by 1 (R207). -/
def execStMemH (_dst : RegField) (_off : OffField) (_imm : ImmField) (s : State) : Result :=
  s.stepOver 1

/-- STX_MEM_H, opcode 0x6b (R173): a no-operation to the stepper (R187, R206); `pc` advances by 1 (R207). -/
def execStxMemH (_dst : RegField) (_src : RegField) (_off : OffField) (s : State) : Result :=
  s.stepOver 1

/-- LDX_MEM_B, opcode 0x71 (R171): a no-operation to the stepper (R187, R206); `pc` advances by 1 (R207). -/
def execLdxMemB (_dst : RegField) (_src : RegField) (_off : OffField) (s : State) : Result :=
  s.stepOver 1

/-- ST_MEM_B, opcode 0x72 (R172): a no-operation to the stepper (R187, R206); `pc` advances by 1 (R207). -/
def execStMemB (_dst : RegField) (_off : OffField) (_imm : ImmField) (s : State) : Result :=
  s.stepOver 1

/-- STX_MEM_B, opcode 0x73 (R173): a no-operation to the stepper (R187, R206); `pc` advances by 1 (R207). -/
def execStxMemB (_dst : RegField) (_src : RegField) (_off : OffField) (s : State) : Result :=
  s.stepOver 1

/-- LDX_MEM_DW, opcode 0x79 (R171): a no-operation to the stepper (R187, R206); `pc` advances by 1 (R207). -/
def execLdxMemDw (_dst : RegField) (_src : RegField) (_off : OffField) (s : State) : Result :=
  s.stepOver 1

/-- ST_MEM_DW, opcode 0x7a (R172): a no-operation to the stepper (R187, R206); `pc` advances by 1 (R207). -/
def execStMemDw (_dst : RegField) (_off : OffField) (_imm : ImmField) (s : State) : Result :=
  s.stepOver 1

/-- STX_MEM_DW, opcode 0x7b (R173): a no-operation to the stepper (R187, R206); `pc` advances by 1 (R207). -/
def execStxMemDw (_dst : RegField) (_src : RegField) (_off : OffField) (s : State) : Result :=
  s.stepOver 1

/-- LDX_MEMSX_W, opcode 0x81 (R175): a no-operation to the stepper (R187, R206); `pc` advances by 1 (R207). -/
def execLdxMemsxW (_dst : RegField) (_src : RegField) (_off : OffField) (s : State) : Result :=
  s.stepOver 1

/-- LDX_MEMSX_H, opcode 0x89 (R175): a no-operation to the stepper (R187, R206); `pc` advances by 1 (R207). -/
def execLdxMemsxH (_dst : RegField) (_src : RegField) (_off : OffField) (s : State) : Result :=
  s.stepOver 1

/-- LDX_MEMSX_B, opcode 0x91 (R175): a no-operation to the stepper (R187, R206); `pc` advances by 1 (R207). -/
def execLdxMemsxB (_dst : RegField) (_src : RegField) (_off : OffField) (s : State) : Result :=
  s.stepOver 1

/-- LDX_MEMSX_DW, opcode 0x99 (R175): a no-operation to the stepper (R187, R206); `pc` advances by 1 (R207). -/
def execLdxMemsxDw (_dst : RegField) (_src : RegField) (_off : OffField) (s : State) : Result :=
  s.stepOver 1

/-- STX_ATOMIC_W_ADD, opcode 0xc3 (R178): a no-operation to the stepper (R187, R206); `pc` advances by 1 (R207). -/
def execStxAtomicWAdd (_dst : RegField) (_src : RegField) (_off : OffField) (s : State) : Result :=
  s.stepOver 1

/-- STX_ATOMIC_W_OR, opcode 0xc3 (R179): a no-operation to the stepper (R187, R206); `pc` advances by 1 (R207). -/
def execStxAtomicWOr (_dst : RegField) (_src : RegField) (_off : OffField) (s : State) : Result :=
  s.stepOver 1

/-- STX_ATOMIC_W_AND, opcode 0xc3 (R180): a no-operation to the stepper (R187, R206); `pc` advances by 1 (R207). -/
def execStxAtomicWAnd (_dst : RegField) (_src : RegField) (_off : OffField) (s : State) : Result :=
  s.stepOver 1

/-- STX_ATOMIC_W_XOR, opcode 0xc3 (R181): a no-operation to the stepper (R187, R206); `pc` advances by 1 (R207). -/
def execStxAtomicWXor (_dst : RegField) (_src : RegField) (_off : OffField) (s : State) : Result :=
  s.stepOver 1

/-- STX_ATOMIC_W_FETCH_ADD, opcode 0xc3 (R182): a no-operation to the stepper (R187, R206); `pc` advances by 1 (R207). -/
def execStxAtomicWFetchAdd (s : State) : Result :=
  s.stepOver 1

/-- STX_ATOMIC_W_FETCH_OR, opcode 0xc3 (R182): a no-operation to the stepper (R187, R206); `pc` advances by 1 (R207). -/
def execStxAtomicWFetchOr (s : State) : Result :=
  s.stepOver 1

/-- STX_ATOMIC_W_FETCH_AND, opcode 0xc3 (R182): a no-operation to the stepper (R187, R206); `pc` advances by 1 (R207). -/
def execStxAtomicWFetchAnd (s : State) : Result :=
  s.stepOver 1

/-- STX_ATOMIC_W_FETCH_XOR, opcode 0xc3 (R182): a no-operation to the stepper (R187, R206); `pc` advances by 1 (R207). -/
def execStxAtomicWFetchXor (s : State) : Result :=
  s.stepOver 1

/-- STX_ATOMIC_W_XCHG, opcode 0xc3 (R183): a no-operation to the stepper (R187, R206); `pc` advances by 1 (R207). -/
def execStxAtomicWXchg (_fetch : Bool) (s : State) : Result :=
  s.stepOver 1

/-- STX_ATOMIC_W_CMPXCHG, opcode 0xc3 (R184): a no-operation to the stepper (R187, R206); `pc` advances by 1 (R207). -/
def execStxAtomicWCmpxchg (_fetch : Bool) (s : State) : Result :=
  s.stepOver 1

/-- STX_ATOMIC_DW_ADD, opcode 0xdb (R178): a no-operation to the stepper (R187, R206); `pc` advances by 1 (R207). -/
def execStxAtomicDwAdd (_dst : RegField) (_src : RegField) (_off : OffField) (s : State) : Result :=
  s.stepOver 1

/-- STX_ATOMIC_DW_OR, opcode 0xdb (R179): a no-operation to the stepper (R187, R206); `pc` advances by 1 (R207). -/
def execStxAtomicDwOr (_dst : RegField) (_src : RegField) (_off : OffField) (s : State) : Result :=
  s.stepOver 1

/-- STX_ATOMIC_DW_AND, opcode 0xdb (R180): a no-operation to the stepper (R187, R206); `pc` advances by 1 (R207). -/
def execStxAtomicDwAnd (_dst : RegField) (_src : RegField) (_off : OffField) (s : State) : Result :=
  s.stepOver 1

/-- STX_ATOMIC_DW_XOR, opcode 0xdb (R181): a no-operation to the stepper (R187, R206); `pc` advances by 1 (R207). -/
def execStxAtomicDwXor (_dst : RegField) (_src : RegField) (_off : OffField) (s : State) : Result :=
  s.stepOver 1

/-- STX_ATOMIC_DW_FETCH_ADD, opcode 0xdb (R182): a no-operation to the stepper (R187, R206); `pc` advances by 1 (R207). -/
def execStxAtomicDwFetchAdd (s : State) : Result :=
  s.stepOver 1

/-- STX_ATOMIC_DW_FETCH_OR, opcode 0xdb (R182): a no-operation to the stepper (R187, R206); `pc` advances by 1 (R207). -/
def execStxAtomicDwFetchOr (s : State) : Result :=
  s.stepOver 1

/-- STX_ATOMIC_DW_FETCH_AND, opcode 0xdb (R182): a no-operation to the stepper (R187, R206); `pc` advances by 1 (R207). -/
def execStxAtomicDwFetchAnd (s : State) : Result :=
  s.stepOver 1

/-- STX_ATOMIC_DW_FETCH_XOR, opcode 0xdb (R182): a no-operation to the stepper (R187, R206); `pc` advances by 1 (R207). -/
def execStxAtomicDwFetchXor (s : State) : Result :=
  s.stepOver 1

/-- STX_ATOMIC_DW_XCHG, opcode 0xdb (R183): a no-operation to the stepper (R187, R206); `pc` advances by 1 (R207). -/
def execStxAtomicDwXchg (_fetch : Bool) (s : State) : Result :=
  s.stepOver 1

/-- STX_ATOMIC_DW_CMPXCHG, opcode 0xdb (R184): a no-operation to the stepper (R187, R206); `pc` advances by 1 (R207). -/
def execStxAtomicDwCmpxchg (_fetch : Bool) (s : State) : Result :=
  s.stepOver 1

end Sys2Proof.Machine
end

