-- ==== Sys2Proof/Machine/Undefined.lean ====
section
/-! DEFINITION. The stepper's action on the encodings `Render` calls `InvalidOpcode` (30_encoding.md R72): the stepper does not render and steps over them (R204,
R206), so each has a next state. -/

namespace Sys2Proof.Machine

open Sys2Proof

/-- ALU_CODE_E_K, opcode 0xe4 (R116): a no-operation to the stepper (R101, R206); `pc` advances by 1 (R207). -/
def execAluCodeEK (s : State) : Result :=
  s.stepOver 1

/-- ALU_CODE_E_X, opcode 0xec (R116): a no-operation to the stepper (R101, R206); `pc` advances by 1 (R207). -/
def execAluCodeEX (s : State) : Result :=
  s.stepOver 1

/-- ALU64_CODE_E_K, opcode 0xe7 (R116): a no-operation to the stepper (R101, R206); `pc` advances by 1 (R207). -/
def execAlu64CodeEK (s : State) : Result :=
  s.stepOver 1

/-- ALU64_CODE_E_X, opcode 0xef (R116): a no-operation to the stepper (R101, R206); `pc` advances by 1 (R207). -/
def execAlu64CodeEX (s : State) : Result :=
  s.stepOver 1

/-- ALU_CODE_F_K, opcode 0xf4 (R116): a no-operation to the stepper (R101, R206); `pc` advances by 1 (R207). -/
def execAluCodeFK (s : State) : Result :=
  s.stepOver 1

/-- ALU_CODE_F_X, opcode 0xfc (R116): a no-operation to the stepper (R101, R206); `pc` advances by 1 (R207). -/
def execAluCodeFX (s : State) : Result :=
  s.stepOver 1

/-- ALU64_CODE_F_K, opcode 0xf7 (R116): a no-operation to the stepper (R101, R206); `pc` advances by 1 (R207). -/
def execAlu64CodeFK (s : State) : Result :=
  s.stepOver 1

/-- ALU64_CODE_F_X, opcode 0xff (R116): a no-operation to the stepper (R101, R206); `pc` advances by 1 (R207). -/
def execAlu64CodeFX (s : State) : Result :=
  s.stepOver 1

/-- JMP_CODE_E_K, opcode 0xe5 (R145): a no-operation to the stepper (R146, R206); `pc` advances by 1 (R207). -/
def execJmpCodeEK (s : State) : Result :=
  s.stepOver 1

/-- JMP_CODE_E_X, opcode 0xed (R145): a no-operation to the stepper (R146, R206); `pc` advances by 1 (R207). -/
def execJmpCodeEX (s : State) : Result :=
  s.stepOver 1

/-- JMP32_CODE_E_K, opcode 0xe6 (R145): a no-operation to the stepper (R146, R206); `pc` advances by 1 (R207). -/
def execJmp32CodeEK (s : State) : Result :=
  s.stepOver 1

/-- JMP32_CODE_E_X, opcode 0xee (R145): a no-operation to the stepper (R146, R206); `pc` advances by 1 (R207). -/
def execJmp32CodeEX (s : State) : Result :=
  s.stepOver 1

/-- JMP_CODE_F_K, opcode 0xf5 (R145): a no-operation to the stepper (R146, R206); `pc` advances by 1 (R207). -/
def execJmpCodeFK (s : State) : Result :=
  s.stepOver 1

/-- JMP_CODE_F_X, opcode 0xfd (R145): a no-operation to the stepper (R146, R206); `pc` advances by 1 (R207). -/
def execJmpCodeFX (s : State) : Result :=
  s.stepOver 1

/-- JMP32_CODE_F_K, opcode 0xf6 (R145): a no-operation to the stepper (R146, R206); `pc` advances by 1 (R207). -/
def execJmp32CodeFK (s : State) : Result :=
  s.stepOver 1

/-- JMP32_CODE_F_X, opcode 0xfe (R145): a no-operation to the stepper (R146, R206); `pc` advances by 1 (R207). -/
def execJmp32CodeFX (s : State) : Result :=
  s.stepOver 1

/-- JMP_CALL_K_SEL_OTHER, opcode 0x85 (R143): a no-operation to the stepper (R146, R206); `pc` advances by 1 (R207). -/
def execJmpCallKSelOther (_src : RegField) (s : State) : Result :=
  s.stepOver 1

/-- JMP_CALL_X_SEL_OTHER, opcode 0x8d (R143): a no-operation to the stepper (R146, R206); `pc` advances by 1 (R207). -/
def execJmpCallXSelOther (_src : RegField) (s : State) : Result :=
  s.stepOver 1

/-- JMP32_CALL_K_SEL_OTHER, opcode 0x86 (R143): a no-operation to the stepper (R146, R206); `pc` advances by 1 (R207). -/
def execJmp32CallKSelOther (_src : RegField) (s : State) : Result :=
  s.stepOver 1

/-- JMP32_CALL_X_SEL_OTHER, opcode 0x8e (R143): a no-operation to the stepper (R146, R206); `pc` advances by 1 (R207). -/
def execJmp32CallXSelOther (_src : RegField) (s : State) : Result :=
  s.stepOver 1

/-- LD_IMM_SEL_OTHER, opcodes 0x00-0x03, 0x08-0x0b, 0x10-0x13, 0x18-0x1b (R168): a no-operation to the stepper (R187, R206); `pc` advances by 2 (R207). -/
def execLdImmSelOther (_cls : LSClass) (_size : Size) (_src : RegField) (_nextImm : ImmField) (s : State) : Result :=
  s.stepOver 2

/-- LD_MEM_ANY, opcodes 0x60, 0x68, 0x70, 0x78 (R174): a no-operation to the stepper (R187, R206); `pc` advances by 1 (R207). -/
def execLdMemAny (_size : Size) (s : State) : Result :=
  s.stepOver 1

/-- NOTLDX_MEMSX_ANY, opcodes 0x80, 0x82, 0x83, 0x88, 0x8a, 0x8b, 0x90, 0x92, 0x93, 0x98, 0x9a, 0x9b (R176): a no-operation to the stepper (R187, R206); `pc` advances by 1 (R207). -/
def execNotldxMemsxAny (_cls : LSClass) (_size : Size) (s : State) : Result :=
  s.stepOver 1

/-- ANY_ATOMIC_H, opcodes 0xc8-0xcb (R177): a no-operation to the stepper (R187, R206); `pc` advances by 1 (R207). -/
def execAnyAtomicH (_cls : LSClass) (s : State) : Result :=
  s.stepOver 1

/-- ANY_ATOMIC_B, opcodes 0xd0-0xd3 (R177): a no-operation to the stepper (R187, R206); `pc` advances by 1 (R207). -/
def execAnyAtomicB (_cls : LSClass) (s : State) : Result :=
  s.stepOver 1

/-- STX_ATOMIC_W_OP_OTHER, opcode 0xc3 (R185): a no-operation to the stepper (R187, R206); `pc` advances by 1 (R207). -/
def execStxAtomicWOpOther (_imm : ImmField) (s : State) : Result :=
  s.stepOver 1

/-- STX_ATOMIC_DW_OP_OTHER, opcode 0xdb (R185): a no-operation to the stepper (R187, R206); `pc` advances by 1 (R207). -/
def execStxAtomicDwOpOther (_imm : ImmField) (s : State) : Result :=
  s.stepOver 1

/-- NOTSTX_ATOMIC_ANY, opcodes 0xc0, 0xc1, 0xc2, 0xd8, 0xd9, 0xda (R177): a no-operation to the stepper (R187, R206); `pc` advances by 1 (R207). -/
def execNotstxAtomicAny (_cls : LSClass) (_size : Size) (s : State) : Result :=
  s.stepOver 1

/-- ANY_MODE5, opcodes 0xa0-0xa3, 0xa8-0xab, 0xb0-0xb3, 0xb8-0xbb (R186): a no-operation to the stepper (R187, R206); `pc` advances by 1 (R207). -/
def execAnyMode5 (_cls : LSClass) (_size : Size) (s : State) : Result :=
  s.stepOver 1

/-- ANY_MODE7, opcodes 0xe0-0xe3, 0xe8-0xeb, 0xf0-0xf3, 0xf8-0xfb (R186): a no-operation to the stepper (R187, R206); `pc` advances by 1 (R207). -/
def execAnyMode7 (_cls : LSClass) (_size : Size) (s : State) : Result :=
  s.stepOver 1

end Sys2Proof.Machine
end

