-- ==== Sys2Proof/Machine/Dispatch.lean ====
section
/-! DEFINITION. The meaning of every instruction: one arm per constructor, each one call of a definition of its own. -/

namespace Sys2Proof.Machine

open Sys2Proof

/-- The action of `ExecuteStep` on a decoded instruction (R204). -/
def exec (i : Instr) (s : State) : Host.Outcome State Fault Refusal :=
  match i with
  | .aluAddK dst imm => Sys2Proof.Machine.execAluAddK dst imm s
  | .aluAddX dst src => Sys2Proof.Machine.execAluAddX dst src s
  | .alu64AddK dst imm => Sys2Proof.Machine.execAlu64AddK dst imm s
  | .alu64AddX dst src => Sys2Proof.Machine.execAlu64AddX dst src s
  | .aluSubK dst imm => Sys2Proof.Machine.execAluSubK dst imm s
  | .aluSubX dst src => Sys2Proof.Machine.execAluSubX dst src s
  | .alu64SubK dst imm => Sys2Proof.Machine.execAlu64SubK dst imm s
  | .alu64SubX dst src => Sys2Proof.Machine.execAlu64SubX dst src s
  | .aluMulK dst imm => Sys2Proof.Machine.execAluMulK dst imm s
  | .aluMulX dst src => Sys2Proof.Machine.execAluMulX dst src s
  | .alu64MulK dst imm => Sys2Proof.Machine.execAlu64MulK dst imm s
  | .alu64MulX dst src => Sys2Proof.Machine.execAlu64MulX dst src s
  | .aluDivKSrc0 dst => Sys2Proof.Machine.execAluDivKSrc0 dst s
  | .aluDivK dst src imm => Sys2Proof.Machine.execAluDivK dst src imm s
  | .aluDivXSrc0 dst => Sys2Proof.Machine.execAluDivXSrc0 dst s
  | .aluDivX dst src => Sys2Proof.Machine.execAluDivX dst src s
  | .alu64DivKSrc0 dst => Sys2Proof.Machine.execAlu64DivKSrc0 dst s
  | .alu64DivK dst src imm => Sys2Proof.Machine.execAlu64DivK dst src imm s
  | .alu64DivXSrc0 dst => Sys2Proof.Machine.execAlu64DivXSrc0 dst s
  | .alu64DivX dst src => Sys2Proof.Machine.execAlu64DivX dst src s
  | .aluOrK dst imm => Sys2Proof.Machine.execAluOrK dst imm s
  | .aluOrX dst src => Sys2Proof.Machine.execAluOrX dst src s
  | .alu64OrK dst imm => Sys2Proof.Machine.execAlu64OrK dst imm s
  | .alu64OrX dst src => Sys2Proof.Machine.execAlu64OrX dst src s
  | .aluAndK dst imm => Sys2Proof.Machine.execAluAndK dst imm s
  | .aluAndX dst src => Sys2Proof.Machine.execAluAndX dst src s
  | .alu64AndK dst imm => Sys2Proof.Machine.execAlu64AndK dst imm s
  | .alu64AndX dst src => Sys2Proof.Machine.execAlu64AndX dst src s
  | .aluLshK dst imm => Sys2Proof.Machine.execAluLshK dst imm s
  | .aluLshX dst src => Sys2Proof.Machine.execAluLshX dst src s
  | .alu64LshK dst imm => Sys2Proof.Machine.execAlu64LshK dst imm s
  | .alu64LshX dst src => Sys2Proof.Machine.execAlu64LshX dst src s
  | .aluRshK dst imm => Sys2Proof.Machine.execAluRshK dst imm s
  | .aluRshX dst src => Sys2Proof.Machine.execAluRshX dst src s
  | .alu64RshK dst imm => Sys2Proof.Machine.execAlu64RshK dst imm s
  | .alu64RshX dst src => Sys2Proof.Machine.execAlu64RshX dst src s
  | .aluNegK dst src => Sys2Proof.Machine.execAluNegK dst src s
  | .aluNegX dst src => Sys2Proof.Machine.execAluNegX dst src s
  | .alu64NegK dst src => Sys2Proof.Machine.execAlu64NegK dst src s
  | .alu64NegX dst src => Sys2Proof.Machine.execAlu64NegX dst src s
  | .aluModKSrc0 dst => Sys2Proof.Machine.execAluModKSrc0 dst s
  | .aluModK dst src imm => Sys2Proof.Machine.execAluModK dst src imm s
  | .aluModXSrc0 dst => Sys2Proof.Machine.execAluModXSrc0 dst s
  | .aluModX dst src => Sys2Proof.Machine.execAluModX dst src s
  | .alu64ModKSrc0 dst => Sys2Proof.Machine.execAlu64ModKSrc0 dst s
  | .alu64ModK dst src imm => Sys2Proof.Machine.execAlu64ModK dst src imm s
  | .alu64ModXSrc0 dst => Sys2Proof.Machine.execAlu64ModXSrc0 dst s
  | .alu64ModX dst src => Sys2Proof.Machine.execAlu64ModX dst src s
  | .aluXorK dst imm => Sys2Proof.Machine.execAluXorK dst imm s
  | .aluXorX dst src => Sys2Proof.Machine.execAluXorX dst src s
  | .alu64XorK dst imm => Sys2Proof.Machine.execAlu64XorK dst imm s
  | .alu64XorX dst src => Sys2Proof.Machine.execAlu64XorX dst src s
  | .aluMovK dst imm => Sys2Proof.Machine.execAluMovK dst imm s
  | .aluMovX dst src => Sys2Proof.Machine.execAluMovX dst src s
  | .alu64MovK dst imm => Sys2Proof.Machine.execAlu64MovK dst imm s
  | .alu64MovX dst src => Sys2Proof.Machine.execAlu64MovX dst src s
  | .aluArshK dst imm => Sys2Proof.Machine.execAluArshK dst imm s
  | .aluArshX dst src => Sys2Proof.Machine.execAluArshX dst src s
  | .alu64ArshK dst imm => Sys2Proof.Machine.execAlu64ArshK dst imm s
  | .alu64ArshX dst src => Sys2Proof.Machine.execAlu64ArshX dst src s
  | .aluEndK => Sys2Proof.Machine.execAluEndK s
  | .aluEndX => Sys2Proof.Machine.execAluEndX s
  | .alu64EndK => Sys2Proof.Machine.execAlu64EndK s
  | .alu64EndX => Sys2Proof.Machine.execAlu64EndX s
  | .jmpJaK off => Sys2Proof.Machine.execJmpJaK off s
  | .jmpJaX off => Sys2Proof.Machine.execJmpJaX off s
  | .jmp32JaK off => Sys2Proof.Machine.execJmp32JaK off s
  | .jmp32JaX off => Sys2Proof.Machine.execJmp32JaX off s
  | .jmpJeqK dst off imm => Sys2Proof.Machine.execJmpJeqK dst off imm s
  | .jmpJeqX dst src off => Sys2Proof.Machine.execJmpJeqX dst src off s
  | .jmp32JeqK dst off imm => Sys2Proof.Machine.execJmp32JeqK dst off imm s
  | .jmp32JeqX dst src off => Sys2Proof.Machine.execJmp32JeqX dst src off s
  | .jmpJgtK dst off imm => Sys2Proof.Machine.execJmpJgtK dst off imm s
  | .jmpJgtX dst src off => Sys2Proof.Machine.execJmpJgtX dst src off s
  | .jmp32JgtK dst off imm => Sys2Proof.Machine.execJmp32JgtK dst off imm s
  | .jmp32JgtX dst src off => Sys2Proof.Machine.execJmp32JgtX dst src off s
  | .jmpJgeK dst off imm => Sys2Proof.Machine.execJmpJgeK dst off imm s
  | .jmpJgeX dst src off => Sys2Proof.Machine.execJmpJgeX dst src off s
  | .jmp32JgeK dst off imm => Sys2Proof.Machine.execJmp32JgeK dst off imm s
  | .jmp32JgeX dst src off => Sys2Proof.Machine.execJmp32JgeX dst src off s
  | .jmpJsetK dst off imm => Sys2Proof.Machine.execJmpJsetK dst off imm s
  | .jmpJsetX dst src off => Sys2Proof.Machine.execJmpJsetX dst src off s
  | .jmp32JsetK dst off imm => Sys2Proof.Machine.execJmp32JsetK dst off imm s
  | .jmp32JsetX dst src off => Sys2Proof.Machine.execJmp32JsetX dst src off s
  | .jmpJneK dst off imm => Sys2Proof.Machine.execJmpJneK dst off imm s
  | .jmpJneX dst src off => Sys2Proof.Machine.execJmpJneX dst src off s
  | .jmp32JneK dst off imm => Sys2Proof.Machine.execJmp32JneK dst off imm s
  | .jmp32JneX dst src off => Sys2Proof.Machine.execJmp32JneX dst src off s
  | .jmpJsgtK dst off imm => Sys2Proof.Machine.execJmpJsgtK dst off imm s
  | .jmpJsgtX dst src off => Sys2Proof.Machine.execJmpJsgtX dst src off s
  | .jmp32JsgtK dst off imm => Sys2Proof.Machine.execJmp32JsgtK dst off imm s
  | .jmp32JsgtX dst src off => Sys2Proof.Machine.execJmp32JsgtX dst src off s
  | .jmpJsgeK dst off imm => Sys2Proof.Machine.execJmpJsgeK dst off imm s
  | .jmpJsgeX dst src off => Sys2Proof.Machine.execJmpJsgeX dst src off s
  | .jmp32JsgeK dst off imm => Sys2Proof.Machine.execJmp32JsgeK dst off imm s
  | .jmp32JsgeX dst src off => Sys2Proof.Machine.execJmp32JsgeX dst src off s
  | .jmpCallKSel0 imm => Sys2Proof.Machine.execJmpCallKSel0 imm s
  | .jmpCallKSel1 off => Sys2Proof.Machine.execJmpCallKSel1 off s
  | .jmpCallKSel2 imm => Sys2Proof.Machine.execJmpCallKSel2 imm s
  | .jmpCallXSel0 imm => Sys2Proof.Machine.execJmpCallXSel0 imm s
  | .jmpCallXSel1 off => Sys2Proof.Machine.execJmpCallXSel1 off s
  | .jmpCallXSel2 imm => Sys2Proof.Machine.execJmpCallXSel2 imm s
  | .jmp32CallKSel0 imm => Sys2Proof.Machine.execJmp32CallKSel0 imm s
  | .jmp32CallKSel1 off => Sys2Proof.Machine.execJmp32CallKSel1 off s
  | .jmp32CallKSel2 imm => Sys2Proof.Machine.execJmp32CallKSel2 imm s
  | .jmp32CallXSel0 imm => Sys2Proof.Machine.execJmp32CallXSel0 imm s
  | .jmp32CallXSel1 off => Sys2Proof.Machine.execJmp32CallXSel1 off s
  | .jmp32CallXSel2 imm => Sys2Proof.Machine.execJmp32CallXSel2 imm s
  | .jmpExitK => Sys2Proof.Machine.execJmpExitK s
  | .jmpExitX => Sys2Proof.Machine.execJmpExitX s
  | .jmp32ExitK => Sys2Proof.Machine.execJmp32ExitK s
  | .jmp32ExitX => Sys2Proof.Machine.execJmp32ExitX s
  | .jmpJltK dst off imm => Sys2Proof.Machine.execJmpJltK dst off imm s
  | .jmpJltX dst src off => Sys2Proof.Machine.execJmpJltX dst src off s
  | .jmp32JltK dst off imm => Sys2Proof.Machine.execJmp32JltK dst off imm s
  | .jmp32JltX dst src off => Sys2Proof.Machine.execJmp32JltX dst src off s
  | .jmpJleK dst off imm => Sys2Proof.Machine.execJmpJleK dst off imm s
  | .jmpJleX dst src off => Sys2Proof.Machine.execJmpJleX dst src off s
  | .jmp32JleK dst off imm => Sys2Proof.Machine.execJmp32JleK dst off imm s
  | .jmp32JleX dst src off => Sys2Proof.Machine.execJmp32JleX dst src off s
  | .jmpJsltK dst off imm => Sys2Proof.Machine.execJmpJsltK dst off imm s
  | .jmpJsltX dst src off => Sys2Proof.Machine.execJmpJsltX dst src off s
  | .jmp32JsltK dst off imm => Sys2Proof.Machine.execJmp32JsltK dst off imm s
  | .jmp32JsltX dst src off => Sys2Proof.Machine.execJmp32JsltX dst src off s
  | .jmpJsleK dst off imm => Sys2Proof.Machine.execJmpJsleK dst off imm s
  | .jmpJsleX dst src off => Sys2Proof.Machine.execJmpJsleX dst src off s
  | .jmp32JsleK dst off imm => Sys2Proof.Machine.execJmp32JsleK dst off imm s
  | .jmp32JsleX dst src off => Sys2Proof.Machine.execJmp32JsleX dst src off s
  | .ldImmLiteral64 cls size dst imm nextImm => Sys2Proof.Machine.execLdImmLiteral64 cls size dst imm nextImm s
  | .ldImmMapByFd cls size dst imm nextImm => Sys2Proof.Machine.execLdImmMapByFd cls size dst imm nextImm s
  | .ldImmMapValByFd cls size dst imm nextImm => Sys2Proof.Machine.execLdImmMapValByFd cls size dst imm nextImm s
  | .ldImmVarAddr cls size dst imm nextImm => Sys2Proof.Machine.execLdImmVarAddr cls size dst imm nextImm s
  | .ldImmCodeAddr cls size dst imm nextImm => Sys2Proof.Machine.execLdImmCodeAddr cls size dst imm nextImm s
  | .ldImmMapByIdx cls size dst imm nextImm => Sys2Proof.Machine.execLdImmMapByIdx cls size dst imm nextImm s
  | .ldImmMapValByIdx cls size dst imm nextImm => Sys2Proof.Machine.execLdImmMapValByIdx cls size dst imm nextImm s
  | .ldAbsW => Sys2Proof.Machine.execLdAbsW s
  | .ldxAbsW => Sys2Proof.Machine.execLdxAbsW s
  | .stAbsW => Sys2Proof.Machine.execStAbsW s
  | .stxAbsW => Sys2Proof.Machine.execStxAbsW s
  | .ldAbsH => Sys2Proof.Machine.execLdAbsH s
  | .ldxAbsH => Sys2Proof.Machine.execLdxAbsH s
  | .stAbsH => Sys2Proof.Machine.execStAbsH s
  | .stxAbsH => Sys2Proof.Machine.execStxAbsH s
  | .ldAbsB => Sys2Proof.Machine.execLdAbsB s
  | .ldxAbsB => Sys2Proof.Machine.execLdxAbsB s
  | .stAbsB => Sys2Proof.Machine.execStAbsB s
  | .stxAbsB => Sys2Proof.Machine.execStxAbsB s
  | .ldAbsDw => Sys2Proof.Machine.execLdAbsDw s
  | .ldxAbsDw => Sys2Proof.Machine.execLdxAbsDw s
  | .stAbsDw => Sys2Proof.Machine.execStAbsDw s
  | .stxAbsDw => Sys2Proof.Machine.execStxAbsDw s
  | .ldIndW => Sys2Proof.Machine.execLdIndW s
  | .ldxIndW => Sys2Proof.Machine.execLdxIndW s
  | .stIndW => Sys2Proof.Machine.execStIndW s
  | .stxIndW => Sys2Proof.Machine.execStxIndW s
  | .ldIndH => Sys2Proof.Machine.execLdIndH s
  | .ldxIndH => Sys2Proof.Machine.execLdxIndH s
  | .stIndH => Sys2Proof.Machine.execStIndH s
  | .stxIndH => Sys2Proof.Machine.execStxIndH s
  | .ldIndB => Sys2Proof.Machine.execLdIndB s
  | .ldxIndB => Sys2Proof.Machine.execLdxIndB s
  | .stIndB => Sys2Proof.Machine.execStIndB s
  | .stxIndB => Sys2Proof.Machine.execStxIndB s
  | .ldIndDw => Sys2Proof.Machine.execLdIndDw s
  | .ldxIndDw => Sys2Proof.Machine.execLdxIndDw s
  | .stIndDw => Sys2Proof.Machine.execStIndDw s
  | .stxIndDw => Sys2Proof.Machine.execStxIndDw s
  | .ldxMemW dst src off => Sys2Proof.Machine.execLdxMemW dst src off s
  | .stMemW dst off imm => Sys2Proof.Machine.execStMemW dst off imm s
  | .stxMemW dst src off => Sys2Proof.Machine.execStxMemW dst src off s
  | .ldxMemH dst src off => Sys2Proof.Machine.execLdxMemH dst src off s
  | .stMemH dst off imm => Sys2Proof.Machine.execStMemH dst off imm s
  | .stxMemH dst src off => Sys2Proof.Machine.execStxMemH dst src off s
  | .ldxMemB dst src off => Sys2Proof.Machine.execLdxMemB dst src off s
  | .stMemB dst off imm => Sys2Proof.Machine.execStMemB dst off imm s
  | .stxMemB dst src off => Sys2Proof.Machine.execStxMemB dst src off s
  | .ldxMemDw dst src off => Sys2Proof.Machine.execLdxMemDw dst src off s
  | .stMemDw dst off imm => Sys2Proof.Machine.execStMemDw dst off imm s
  | .stxMemDw dst src off => Sys2Proof.Machine.execStxMemDw dst src off s
  | .ldxMemsxW dst src off => Sys2Proof.Machine.execLdxMemsxW dst src off s
  | .ldxMemsxH dst src off => Sys2Proof.Machine.execLdxMemsxH dst src off s
  | .ldxMemsxB dst src off => Sys2Proof.Machine.execLdxMemsxB dst src off s
  | .ldxMemsxDw dst src off => Sys2Proof.Machine.execLdxMemsxDw dst src off s
  | .stxAtomicWAdd dst src off => Sys2Proof.Machine.execStxAtomicWAdd dst src off s
  | .stxAtomicWOr dst src off => Sys2Proof.Machine.execStxAtomicWOr dst src off s
  | .stxAtomicWAnd dst src off => Sys2Proof.Machine.execStxAtomicWAnd dst src off s
  | .stxAtomicWXor dst src off => Sys2Proof.Machine.execStxAtomicWXor dst src off s
  | .stxAtomicWFetchAdd => Sys2Proof.Machine.execStxAtomicWFetchAdd s
  | .stxAtomicWFetchOr => Sys2Proof.Machine.execStxAtomicWFetchOr s
  | .stxAtomicWFetchAnd => Sys2Proof.Machine.execStxAtomicWFetchAnd s
  | .stxAtomicWFetchXor => Sys2Proof.Machine.execStxAtomicWFetchXor s
  | .stxAtomicWXchg fetch => Sys2Proof.Machine.execStxAtomicWXchg fetch s
  | .stxAtomicWCmpxchg fetch => Sys2Proof.Machine.execStxAtomicWCmpxchg fetch s
  | .stxAtomicDwAdd dst src off => Sys2Proof.Machine.execStxAtomicDwAdd dst src off s
  | .stxAtomicDwOr dst src off => Sys2Proof.Machine.execStxAtomicDwOr dst src off s
  | .stxAtomicDwAnd dst src off => Sys2Proof.Machine.execStxAtomicDwAnd dst src off s
  | .stxAtomicDwXor dst src off => Sys2Proof.Machine.execStxAtomicDwXor dst src off s
  | .stxAtomicDwFetchAdd => Sys2Proof.Machine.execStxAtomicDwFetchAdd s
  | .stxAtomicDwFetchOr => Sys2Proof.Machine.execStxAtomicDwFetchOr s
  | .stxAtomicDwFetchAnd => Sys2Proof.Machine.execStxAtomicDwFetchAnd s
  | .stxAtomicDwFetchXor => Sys2Proof.Machine.execStxAtomicDwFetchXor s
  | .stxAtomicDwXchg fetch => Sys2Proof.Machine.execStxAtomicDwXchg fetch s
  | .stxAtomicDwCmpxchg fetch => Sys2Proof.Machine.execStxAtomicDwCmpxchg fetch s
  | .aluCodeEK => Sys2Proof.Machine.execAluCodeEK s
  | .aluCodeEX => Sys2Proof.Machine.execAluCodeEX s
  | .alu64CodeEK => Sys2Proof.Machine.execAlu64CodeEK s
  | .alu64CodeEX => Sys2Proof.Machine.execAlu64CodeEX s
  | .aluCodeFK => Sys2Proof.Machine.execAluCodeFK s
  | .aluCodeFX => Sys2Proof.Machine.execAluCodeFX s
  | .alu64CodeFK => Sys2Proof.Machine.execAlu64CodeFK s
  | .alu64CodeFX => Sys2Proof.Machine.execAlu64CodeFX s
  | .jmpCodeEK => Sys2Proof.Machine.execJmpCodeEK s
  | .jmpCodeEX => Sys2Proof.Machine.execJmpCodeEX s
  | .jmp32CodeEK => Sys2Proof.Machine.execJmp32CodeEK s
  | .jmp32CodeEX => Sys2Proof.Machine.execJmp32CodeEX s
  | .jmpCodeFK => Sys2Proof.Machine.execJmpCodeFK s
  | .jmpCodeFX => Sys2Proof.Machine.execJmpCodeFX s
  | .jmp32CodeFK => Sys2Proof.Machine.execJmp32CodeFK s
  | .jmp32CodeFX => Sys2Proof.Machine.execJmp32CodeFX s
  | .jmpCallKSelOther src => Sys2Proof.Machine.execJmpCallKSelOther src s
  | .jmpCallXSelOther src => Sys2Proof.Machine.execJmpCallXSelOther src s
  | .jmp32CallKSelOther src => Sys2Proof.Machine.execJmp32CallKSelOther src s
  | .jmp32CallXSelOther src => Sys2Proof.Machine.execJmp32CallXSelOther src s
  | .ldImmSelOther cls size src nextImm => Sys2Proof.Machine.execLdImmSelOther cls size src nextImm s
  | .ldMemAny size => Sys2Proof.Machine.execLdMemAny size s
  | .notldxMemsxAny cls size => Sys2Proof.Machine.execNotldxMemsxAny cls size s
  | .anyAtomicH cls => Sys2Proof.Machine.execAnyAtomicH cls s
  | .anyAtomicB cls => Sys2Proof.Machine.execAnyAtomicB cls s
  | .stxAtomicWOpOther imm => Sys2Proof.Machine.execStxAtomicWOpOther imm s
  | .stxAtomicDwOpOther imm => Sys2Proof.Machine.execStxAtomicDwOpOther imm s
  | .notstxAtomicAny cls size => Sys2Proof.Machine.execNotstxAtomicAny cls size s
  | .anyMode5 cls size => Sys2Proof.Machine.execAnyMode5 cls size s
  | .anyMode7 cls size => Sys2Proof.Machine.execAnyMode7 cls size s

end Sys2Proof.Machine
end

