-- ==== Sys2Proof/Machine/Step.lean ====
section
/-! DEFINITION. One step of the machine, `ExecuteStep` (45_stepper.md R204), and the placing of one instruction where the
next step fetches. -/

namespace Sys2Proof.Machine

open Sys2Proof

/-- `ExecuteStep()`: the fetch, the test for the end of the program, and the action of the instruction (R204). -/
def step (s : State) : Host.Outcome State Fault Refusal := s.executeStep exec

/-- `s` with the program of one instruction attached by `LoadProgram` (R202): the basic word is bits 63 to 0 of `w`, the
extension word of an extended one bits 127 to 64, and every bit from `nbits` up is 0. The registers are those of `s`. -/
def State.withFetchWord (s : State) (nbits w : Nat) : State :=
  s.loadProgram (slotsOf (BitVec.ofNat 64 (w % 2 ^ nbits)) (BitVec.ofNat 64 (w % 2 ^ nbits / 2 ^ 64)))

end Sys2Proof.Machine
end

