-- ==== Sys2Proof/Machine/Text.lean ====
section
/-! DEFINITION. The text primitives of the renderer (30_encoding.md section 7.1, 00_scope.md section 6.2). Text is ASCII,
one byte a character. -/

namespace Sys2Proof.Machine

open Sys2Proof

/-- The decimal digits of a natural number, without leading zeros; `0` is one digit (R80). -/
def decNat (n : Nat) : String := String.ofList (Nat.toDigits 10 n)

/-- `dec(n)`: a `-` when negative, never a `+` (R80, decision D34). -/
def dec (n : Int) : String := if n < 0 then "-" ++ decNat n.natAbs else decNat n.natAbs

/-- `sdec(n)`: explicit sign (R81, decision D14). -/
def sdec (n : Int) : String := if n < 0 then dec n else "+" ++ dec n

/-- `reg(n)` for every field value 0 to 15 (R82, R56, decision D13). -/
def reg (r : RegField) : String := "r" ++ decNat r.toNat

/-- One lower-case hexadecimal digit. -/
def hexDigit (n : Nat) : Char := Nat.digitChar n

/-- `hex16(w)`: sixteen lower-case digits, the most significant first (R83, decision D31). -/
def hex16 (w : Word) : String :=
  String.ofList ((List.range 16).map (fun k => hexDigit (w.extractLsb' (60 - 4 * k) 4).toNat))

/-- `operand(instr)`: the immediate under Source K, the register under Source X (R84). -/
def operandText (sel : Source) (w : Word) : String :=
  match sel with
  | .k => dec (immOf w).toInt
  | .x => reg (srcOf w)

/-- The operator of a normalised offset (R85). -/
def offOp (o : Int) : String := if o < 0 then "-" else "+"

/-- The magnitude of a normalised offset, on mathematical integers (R85). -/
def offMag (o : Int) : String := if o < 0 then dec (-o) else dec o

/-- `addr(base, o)` (R85). -/
def addrText (base : RegField) (o : OffField) : String :=
  "(" ++ reg base ++ " " ++ offOp o.toInt ++ " " ++ offMag o.toInt ++ ")"

/-- `usize(size)` (R86, decision D6). -/
def usize : Size → String
  | .w => "u32"
  | .h => "u16"
  | .b => "u8"
  | .dw => "u64"

/-- `ssize(size)`: the leading `u` replaced by `s` (R86). -/
def ssize : Size → String
  | .w => "s32"
  | .h => "s16"
  | .b => "s8"
  | .dw => "s64"

/-- The memory operand: qualifier, one space before the `*`, address (R86, conflict C5). -/
def memText (qualifier : String) (base : RegField) (o : OffField) : String :=
  "*(" ++ qualifier ++ " *)" ++ addrText base o

/-- `pad(n, k)`: decimal, left padded with `0` to `k` characters (R91). -/
def pad (n k : Nat) : String := String.ofList (List.replicate (k - (decNat n).length) '0') ++ decNat n

/-- The digit count of the highest index of a program of `l` slots; 1 when `l` is 0 or 1 (R91). -/
def indexWidth (l : Nat) : Nat := (decNat (l - 1)).length

end Sys2Proof.Machine
end

