-- ==== Sys2Proof/Machine/Render.lean ====
section
/-! DEFINITION. The DisassemblyEngine's `Render` (30_encoding.md R87 and the family files): a pure function of one
Instruction, by classification of its opcode. It is the whole of what the spec makes of most instructions; the stepper
does not call it (R204). -/

namespace Sys2Proof.Machine

open Sys2Proof

/-- What `Render` ends with: OK and a text, or a condition with its reason and no text (R87, R237). -/
inductive RenderResult
  | ok (text : String)
  | unsupported (reason : UnsupportedReason)
  | invalid (reason : InvalidReason)
  /-- The argument is no Instruction: its basic word is extended and it carries no extension word (outside the invariant of
  R20). The spec gives no result there; log entry 3. -/
  | notAnInstruction
deriving DecidableEq, Repr

/-- The mask shown in a shift's text (R108, decision D10). -/
def maskText : ArithClass → String
  | .alu => "0x1F"
  | .alu64 => "0x3F"

/-- `RenderArithmetic` (R100, R102 to R116). -/
def renderArithmetic (c : ArithClass) (sel : Source) (k : ArithCode) (w : Word) : RenderResult :=
  match k with
  | .add => .ok (reg (dstOf w) ++ " += " ++ operandText sel w)
  | .sub => .ok (reg (dstOf w) ++ " -= " ++ operandText sel w)
  | .mul => .ok (reg (dstOf w) ++ " *= " ++ operandText sel w)
  | .div =>
      if srcOf w = 0 then .ok (reg (dstOf w) ++ " = 0") else .ok (reg (dstOf w) ++ " /= " ++ operandText sel w)
  | .or => .ok (reg (dstOf w) ++ " |= " ++ operandText sel w)
  | .and => .ok (reg (dstOf w) ++ " &= " ++ operandText sel w)
  | .lsh => .ok (reg (dstOf w) ++ " <<= (" ++ operandText sel w ++ " & " ++ maskText c ++ ")")
  | .rsh => .ok (reg (dstOf w) ++ " >>= (" ++ operandText sel w ++ " & " ++ maskText c ++ ")")
  | .neg => .ok (reg (dstOf w) ++ " = ~" ++ reg (srcOf w))
  | .mod =>
      if srcOf w = 0 then .ok (reg (dstOf w) ++ " = " ++ reg (dstOf w))
      else .ok (reg (dstOf w) ++ " %= " ++ operandText sel w)
  | .xor => .ok (reg (dstOf w) ++ " ^= " ++ operandText sel w)
  | .mov => .ok (reg (dstOf w) ++ " = " ++ operandText sel w)
  | .arsh => .ok (reg (dstOf w) ++ " s>>= (" ++ operandText sel w ++ " & " ++ maskText c ++ ")")
  | .end_ => .unsupported .byteSwap
  | .codeE => .invalid .arithCode
  | .codeF => .invalid .arithCode

/-- The displacement of a jump or a program-local call (R81). -/
def jumpTarget (w : Word) : String := sdec (offOf w).toInt

/-- A conditional jump's text with its operator (R130, R132 to R142). -/
def renderConditional (op : String) (sel : Source) (w : Word) : RenderResult :=
  .ok ("if " ++ reg (dstOf w) ++ " " ++ op ++ " " ++ operandText sel w ++ " goto " ++ jumpTarget w)

/-- CALL, by the selector in the `src` field; opcode bit 3 is ignored (R143, decision D15). -/
def renderCall (w : Word) : RenderResult :=
  match (srcOf w).toNat with
  | 0 => .ok ("call " ++ dec (immOf w).toInt)
  | 1 => .ok ("call " ++ jumpTarget w)
  | 2 => .ok ("call " ++ dec (immOf w).toInt)
  | _ => .invalid .callSelector

/-- `RenderJump` (R130 to R145); both classes print alike (R147, decision D16). -/
def renderJump (_c : JumpClass) (sel : Source) (k : JumpCode) (w : Word) : RenderResult :=
  match k with
  | .ja => .ok ("goto " ++ jumpTarget w)
  | .jeq => renderConditional "==" sel w
  | .jgt => renderConditional ">" sel w
  | .jge => renderConditional ">=" sel w
  | .jset => renderConditional "&" sel w
  | .jne => renderConditional "!=" sel w
  | .jsgt => renderConditional "s>" sel w
  | .jsge => renderConditional "s>=" sel w
  | .call => renderCall w
  | .exit => .ok "exit"
  | .jlt => renderConditional "<" sel w
  | .jle => renderConditional "<=" sel w
  | .jslt => renderConditional "s<" sel w
  | .jsle => renderConditional "s<=" sel w
  | .codeE => .invalid .jumpCode
  | .codeF => .invalid .jumpCode

/-- Mode IMM, by the selector in the `src` field (R160 to R168, decision D18). -/
def renderImm (w : Word) (extension : Option Word) : RenderResult :=
  match extension with
  | none => .notAnInstruction
  | some e =>
    match (srcOf w).toNat with
    | 0 => .ok (reg (dstOf w) ++ " = " ++ dec (imm64Of w e).toInt ++ " ll")
    | 1 => .ok (reg (dstOf w) ++ " = map_by_fd(" ++ dec (immOf w).toInt ++ ")")
    | 2 => .ok (reg (dstOf w) ++ " = map_val(map_by_fd(" ++ dec (immOf w).toInt ++ ")) + " ++ dec (immOf e).toInt)
    | 3 => .ok (reg (dstOf w) ++ " = var_addr(" ++ dec (immOf w).toInt ++ ")")
    | 4 => .ok (reg (dstOf w) ++ " = code_addr(" ++ dec (immOf w).toInt ++ ")")
    | 5 => .ok (reg (dstOf w) ++ " = map_by_idx(" ++ dec (immOf w).toInt ++ ")")
    | 6 => .ok (reg (dstOf w) ++ " = map_val(map_by_idx(" ++ dec (immOf w).toInt ++ ")) + " ++ dec (immOf e).toInt)
    | _ => .invalid .immSelector

/-- Mode MEM, by class (R171 to R174). -/
def renderMem (c : LSClass) (z : Size) (w : Word) : RenderResult :=
  match c with
  | .ld => .invalid .memClass
  | .ldx => .ok (reg (dstOf w) ++ " = " ++ memText (usize z) (srcOf w) (offOf w))
  | .st => .ok (memText (usize z) (dstOf w) (offOf w) ++ " = " ++ dec (immOf w).toInt)
  | .stx => .ok (memText (usize z) (dstOf w) (offOf w) ++ " = " ++ reg (srcOf w))

/-- Mode MEMSX, by class (R175, R176). -/
def renderMemsx (c : LSClass) (z : Size) (w : Word) : RenderResult :=
  match c with
  | .ldx => .ok (reg (dstOf w) ++ " = " ++ memText (ssize z) (srcOf w) (offOf w))
  | .ld | .st | .stx => .invalid .memsxClass

/-- The text of a fetch-free atomic operation, or its refusal when the fetch bit is set (R178 to R182). -/
def renderAtomicOp (op : String) (z : Size) (w : Word) : RenderResult :=
  if (immOf w).getLsbD 0 then .unsupported .atomicFetch
  else .ok (memText (usize z) (dstOf w) (offOf w) ++ " " ++ op ++ " " ++ reg (srcOf w))

/-- `RenderAtomic`: the checks in the order size, class, operation (R177, R240, decisions D7 and D21). -/
def renderAtomic (c : LSClass) (z : Size) (w : Word) : RenderResult :=
  if z = .b ∨ z = .h then .invalid .atomicSize
  else if c ≠ .stx then .invalid .atomicClass
  else if immOf w &&& 0xffffff0e ≠ 0 then .invalid .atomicOp
  else
    match (immOf w &&& 0xf0).toNat with
    | 0xe0 => .unsupported .atomicXchg
    | 0xf0 => .unsupported .atomicCmpxchg
    | 0x00 => renderAtomicOp "+=" z w
    | 0x40 => renderAtomicOp "|=" z w
    | 0x50 => renderAtomicOp "&=" z w
    | 0xa0 => renderAtomicOp "^=" z w
    | _ => .invalid .atomicOp

/-- `RenderLoadStore`: by Mode first (R160, R169, R170, R186). -/
def renderLoadStore (c : LSClass) (m : Mode) (z : Size) (w : Word) (extension : Option Word) : RenderResult :=
  match m with
  | .imm => renderImm w extension
  | .abs => .unsupported .legacyAbs
  | .ind => .unsupported .legacyInd
  | .mem => renderMem c z w
  | .memsx => renderMemsx c z w
  | .mode5 => .invalid .lsMode
  | .atomic => renderAtomic c z w
  | .mode7 => .invalid .lsMode

/-- `Render(instr)` (R87). -/
def render (i : Instruction) : RenderResult :=
  match toTyped (opcodeOf i.basic) with
  | .arithmetic c sel k => renderArithmetic c sel k i.basic
  | .jump c sel k => renderJump c sel k i.basic
  | .loadStore c m z => renderLoadStore c m z i.basic i.extension

end Sys2Proof.Machine
end

