-- ==== Sys2Proof/Machine/OpcodeTable.lean ====
section
/-! DEFINITION. The opcode table as data (30_encoding.md R75): its 233 rows in file order, the rule that the first
matching row decides, and the text of a row's template. It is a second account of what `decodeWords` and `render` say by
classification. -/

namespace Sys2Proof.Machine

open Sys2Proof

/-- One piece of a row's text template (R75). -/
inductive Piece
  | lit (s : String)
  | dst | src | imm | imm64 | nextImm | sdecOff | offSign | offAbs
deriving DecidableEq, Repr

/-- A row's status, with its text template or its reason. -/
inductive RowStatus
  | rendered (text : List Piece)
  | unsupported (reason : UnsupportedReason)
  | invalid (reason : InvalidReason)
deriving DecidableEq, Repr

/-- A row: it matches `w` when `w & mask = pattern`. `reads` has the bits of the basic word that the row's listed fields
take; `extended` says its length is 128 bits, `executes` that the stepper interprets it. -/
structure Row where
  mnemonic : String
  pattern : Word
  mask : Word
  reads : Word
  status : RowStatus
  extended : Bool
  executes : Bool
deriving DecidableEq, Repr

/-- Rows 1 to 40 of the table. -/
def opcodeRows0 : List Row :=
  [⟨"ALU_ADD_K", 0x0400000000000000, 0xff00000000000000, 0xff0f0000ffffffff, .rendered [.lit "r", .dst, .lit " += ", .imm], false, true⟩,
   ⟨"ALU_ADD_X", 0x0c00000000000000, 0xff00000000000000, 0xffff000000000000, .rendered [.lit "r", .dst, .lit " += r", .src], false, true⟩,
   ⟨"ALU64_ADD_K", 0x0700000000000000, 0xff00000000000000, 0xff0f0000ffffffff, .rendered [.lit "r", .dst, .lit " += ", .imm], false, true⟩,
   ⟨"ALU64_ADD_X", 0x0f00000000000000, 0xff00000000000000, 0xffff000000000000, .rendered [.lit "r", .dst, .lit " += r", .src], false, true⟩,
   ⟨"ALU_SUB_K", 0x1400000000000000, 0xff00000000000000, 0xff0f0000ffffffff, .rendered [.lit "r", .dst, .lit " -= ", .imm], false, true⟩,
   ⟨"ALU_SUB_X", 0x1c00000000000000, 0xff00000000000000, 0xffff000000000000, .rendered [.lit "r", .dst, .lit " -= r", .src], false, true⟩,
   ⟨"ALU64_SUB_K", 0x1700000000000000, 0xff00000000000000, 0xff0f0000ffffffff, .rendered [.lit "r", .dst, .lit " -= ", .imm], false, true⟩,
   ⟨"ALU64_SUB_X", 0x1f00000000000000, 0xff00000000000000, 0xffff000000000000, .rendered [.lit "r", .dst, .lit " -= r", .src], false, true⟩,
   ⟨"ALU_MUL_K", 0x2400000000000000, 0xff00000000000000, 0xff0f0000ffffffff, .rendered [.lit "r", .dst, .lit " *= ", .imm], false, true⟩,
   ⟨"ALU_MUL_X", 0x2c00000000000000, 0xff00000000000000, 0xffff000000000000, .rendered [.lit "r", .dst, .lit " *= r", .src], false, true⟩,
   ⟨"ALU64_MUL_K", 0x2700000000000000, 0xff00000000000000, 0xff0f0000ffffffff, .rendered [.lit "r", .dst, .lit " *= ", .imm], false, true⟩,
   ⟨"ALU64_MUL_X", 0x2f00000000000000, 0xff00000000000000, 0xffff000000000000, .rendered [.lit "r", .dst, .lit " *= r", .src], false, true⟩,
   ⟨"ALU_DIV_K_SRC0", 0x3400000000000000, 0xfff0000000000000, 0xffff000000000000, .rendered [.lit "r", .dst, .lit " = 0"], false, false⟩,
   ⟨"ALU_DIV_K", 0x3400000000000000, 0xff00000000000000, 0xffff0000ffffffff, .rendered [.lit "r", .dst, .lit " /= ", .imm], false, false⟩,
   ⟨"ALU_DIV_X_SRC0", 0x3c00000000000000, 0xfff0000000000000, 0xffff000000000000, .rendered [.lit "r", .dst, .lit " = 0"], false, false⟩,
   ⟨"ALU_DIV_X", 0x3c00000000000000, 0xff00000000000000, 0xffff000000000000, .rendered [.lit "r", .dst, .lit " /= r", .src], false, false⟩,
   ⟨"ALU64_DIV_K_SRC0", 0x3700000000000000, 0xfff0000000000000, 0xffff000000000000, .rendered [.lit "r", .dst, .lit " = 0"], false, false⟩,
   ⟨"ALU64_DIV_K", 0x3700000000000000, 0xff00000000000000, 0xffff0000ffffffff, .rendered [.lit "r", .dst, .lit " /= ", .imm], false, false⟩,
   ⟨"ALU64_DIV_X_SRC0", 0x3f00000000000000, 0xfff0000000000000, 0xffff000000000000, .rendered [.lit "r", .dst, .lit " = 0"], false, false⟩,
   ⟨"ALU64_DIV_X", 0x3f00000000000000, 0xff00000000000000, 0xffff000000000000, .rendered [.lit "r", .dst, .lit " /= r", .src], false, false⟩,
   ⟨"ALU_OR_K", 0x4400000000000000, 0xff00000000000000, 0xff0f0000ffffffff, .rendered [.lit "r", .dst, .lit " |= ", .imm], false, true⟩,
   ⟨"ALU_OR_X", 0x4c00000000000000, 0xff00000000000000, 0xffff000000000000, .rendered [.lit "r", .dst, .lit " |= r", .src], false, true⟩,
   ⟨"ALU64_OR_K", 0x4700000000000000, 0xff00000000000000, 0xff0f0000ffffffff, .rendered [.lit "r", .dst, .lit " |= ", .imm], false, true⟩,
   ⟨"ALU64_OR_X", 0x4f00000000000000, 0xff00000000000000, 0xffff000000000000, .rendered [.lit "r", .dst, .lit " |= r", .src], false, true⟩,
   ⟨"ALU_AND_K", 0x5400000000000000, 0xff00000000000000, 0xff0f0000ffffffff, .rendered [.lit "r", .dst, .lit " &= ", .imm], false, true⟩,
   ⟨"ALU_AND_X", 0x5c00000000000000, 0xff00000000000000, 0xffff000000000000, .rendered [.lit "r", .dst, .lit " &= r", .src], false, true⟩,
   ⟨"ALU64_AND_K", 0x5700000000000000, 0xff00000000000000, 0xff0f0000ffffffff, .rendered [.lit "r", .dst, .lit " &= ", .imm], false, true⟩,
   ⟨"ALU64_AND_X", 0x5f00000000000000, 0xff00000000000000, 0xffff000000000000, .rendered [.lit "r", .dst, .lit " &= r", .src], false, true⟩,
   ⟨"ALU_LSH_K", 0x6400000000000000, 0xff00000000000000, 0xff0f0000ffffffff, .rendered [.lit "r", .dst, .lit " <<= (", .imm, .lit " & 0x1F)"], false, true⟩,
   ⟨"ALU_LSH_X", 0x6c00000000000000, 0xff00000000000000, 0xffff000000000000, .rendered [.lit "r", .dst, .lit " <<= (r", .src, .lit " & 0x1F)"], false, true⟩,
   ⟨"ALU64_LSH_K", 0x6700000000000000, 0xff00000000000000, 0xff0f0000ffffffff, .rendered [.lit "r", .dst, .lit " <<= (", .imm, .lit " & 0x3F)"], false, true⟩,
   ⟨"ALU64_LSH_X", 0x6f00000000000000, 0xff00000000000000, 0xffff000000000000, .rendered [.lit "r", .dst, .lit " <<= (r", .src, .lit " & 0x3F)"], false, true⟩,
   ⟨"ALU_RSH_K", 0x7400000000000000, 0xff00000000000000, 0xff0f0000ffffffff, .rendered [.lit "r", .dst, .lit " >>= (", .imm, .lit " & 0x1F)"], false, true⟩,
   ⟨"ALU_RSH_X", 0x7c00000000000000, 0xff00000000000000, 0xffff000000000000, .rendered [.lit "r", .dst, .lit " >>= (r", .src, .lit " & 0x1F)"], false, true⟩,
   ⟨"ALU64_RSH_K", 0x7700000000000000, 0xff00000000000000, 0xff0f0000ffffffff, .rendered [.lit "r", .dst, .lit " >>= (", .imm, .lit " & 0x3F)"], false, true⟩,
   ⟨"ALU64_RSH_X", 0x7f00000000000000, 0xff00000000000000, 0xffff000000000000, .rendered [.lit "r", .dst, .lit " >>= (r", .src, .lit " & 0x3F)"], false, true⟩,
   ⟨"ALU_NEG_K", 0x8400000000000000, 0xff00000000000000, 0xffff000000000000, .rendered [.lit "r", .dst, .lit " = ~r", .src], false, false⟩,
   ⟨"ALU_NEG_X", 0x8c00000000000000, 0xff00000000000000, 0xffff000000000000, .rendered [.lit "r", .dst, .lit " = ~r", .src], false, false⟩,
   ⟨"ALU64_NEG_K", 0x8700000000000000, 0xff00000000000000, 0xffff000000000000, .rendered [.lit "r", .dst, .lit " = ~r", .src], false, false⟩,
   ⟨"ALU64_NEG_X", 0x8f00000000000000, 0xff00000000000000, 0xffff000000000000, .rendered [.lit "r", .dst, .lit " = ~r", .src], false, false⟩]

/-- Rows 41 to 80 of the table. -/
def opcodeRows1 : List Row :=
  [⟨"ALU_MOD_K_SRC0", 0x9400000000000000, 0xfff0000000000000, 0xffff000000000000, .rendered [.lit "r", .dst, .lit " = r", .dst], false, false⟩,
   ⟨"ALU_MOD_K", 0x9400000000000000, 0xff00000000000000, 0xffff0000ffffffff, .rendered [.lit "r", .dst, .lit " %= ", .imm], false, false⟩,
   ⟨"ALU_MOD_X_SRC0", 0x9c00000000000000, 0xfff0000000000000, 0xffff000000000000, .rendered [.lit "r", .dst, .lit " = r", .dst], false, false⟩,
   ⟨"ALU_MOD_X", 0x9c00000000000000, 0xff00000000000000, 0xffff000000000000, .rendered [.lit "r", .dst, .lit " %= r", .src], false, false⟩,
   ⟨"ALU64_MOD_K_SRC0", 0x9700000000000000, 0xfff0000000000000, 0xffff000000000000, .rendered [.lit "r", .dst, .lit " = r", .dst], false, false⟩,
   ⟨"ALU64_MOD_K", 0x9700000000000000, 0xff00000000000000, 0xffff0000ffffffff, .rendered [.lit "r", .dst, .lit " %= ", .imm], false, false⟩,
   ⟨"ALU64_MOD_X_SRC0", 0x9f00000000000000, 0xfff0000000000000, 0xffff000000000000, .rendered [.lit "r", .dst, .lit " = r", .dst], false, false⟩,
   ⟨"ALU64_MOD_X", 0x9f00000000000000, 0xff00000000000000, 0xffff000000000000, .rendered [.lit "r", .dst, .lit " %= r", .src], false, false⟩,
   ⟨"ALU_XOR_K", 0xa400000000000000, 0xff00000000000000, 0xff0f0000ffffffff, .rendered [.lit "r", .dst, .lit " ^= ", .imm], false, true⟩,
   ⟨"ALU_XOR_X", 0xac00000000000000, 0xff00000000000000, 0xffff000000000000, .rendered [.lit "r", .dst, .lit " ^= r", .src], false, true⟩,
   ⟨"ALU64_XOR_K", 0xa700000000000000, 0xff00000000000000, 0xff0f0000ffffffff, .rendered [.lit "r", .dst, .lit " ^= ", .imm], false, true⟩,
   ⟨"ALU64_XOR_X", 0xaf00000000000000, 0xff00000000000000, 0xffff000000000000, .rendered [.lit "r", .dst, .lit " ^= r", .src], false, true⟩,
   ⟨"ALU_MOV_K", 0xb400000000000000, 0xff00000000000000, 0xff0f0000ffffffff, .rendered [.lit "r", .dst, .lit " = ", .imm], false, true⟩,
   ⟨"ALU_MOV_X", 0xbc00000000000000, 0xff00000000000000, 0xffff000000000000, .rendered [.lit "r", .dst, .lit " = r", .src], false, true⟩,
   ⟨"ALU64_MOV_K", 0xb700000000000000, 0xff00000000000000, 0xff0f0000ffffffff, .rendered [.lit "r", .dst, .lit " = ", .imm], false, true⟩,
   ⟨"ALU64_MOV_X", 0xbf00000000000000, 0xff00000000000000, 0xffff000000000000, .rendered [.lit "r", .dst, .lit " = r", .src], false, true⟩,
   ⟨"ALU_ARSH_K", 0xc400000000000000, 0xff00000000000000, 0xff0f0000ffffffff, .rendered [.lit "r", .dst, .lit " s>>= (", .imm, .lit " & 0x1F)"], false, false⟩,
   ⟨"ALU_ARSH_X", 0xcc00000000000000, 0xff00000000000000, 0xffff000000000000, .rendered [.lit "r", .dst, .lit " s>>= (r", .src, .lit " & 0x1F)"], false, false⟩,
   ⟨"ALU64_ARSH_K", 0xc700000000000000, 0xff00000000000000, 0xff0f0000ffffffff, .rendered [.lit "r", .dst, .lit " s>>= (", .imm, .lit " & 0x3F)"], false, false⟩,
   ⟨"ALU64_ARSH_X", 0xcf00000000000000, 0xff00000000000000, 0xffff000000000000, .rendered [.lit "r", .dst, .lit " s>>= (r", .src, .lit " & 0x3F)"], false, false⟩,
   ⟨"ALU_END_K", 0xd400000000000000, 0xff00000000000000, 0xff00000000000000, .unsupported .byteSwap, false, false⟩,
   ⟨"ALU_END_X", 0xdc00000000000000, 0xff00000000000000, 0xff00000000000000, .unsupported .byteSwap, false, false⟩,
   ⟨"ALU64_END_K", 0xd700000000000000, 0xff00000000000000, 0xff00000000000000, .unsupported .byteSwap, false, false⟩,
   ⟨"ALU64_END_X", 0xdf00000000000000, 0xff00000000000000, 0xff00000000000000, .unsupported .byteSwap, false, false⟩,
   ⟨"JMP_JA_K", 0x0500000000000000, 0xff00000000000000, 0xff00ffff00000000, .rendered [.lit "goto ", .sdecOff], false, false⟩,
   ⟨"JMP_JA_X", 0x0d00000000000000, 0xff00000000000000, 0xff00ffff00000000, .rendered [.lit "goto ", .sdecOff], false, false⟩,
   ⟨"JMP32_JA_K", 0x0600000000000000, 0xff00000000000000, 0xff00ffff00000000, .rendered [.lit "goto ", .sdecOff], false, false⟩,
   ⟨"JMP32_JA_X", 0x0e00000000000000, 0xff00000000000000, 0xff00ffff00000000, .rendered [.lit "goto ", .sdecOff], false, false⟩,
   ⟨"JMP_JEQ_K", 0x1500000000000000, 0xff00000000000000, 0xff0fffffffffffff, .rendered [.lit "if r", .dst, .lit " == ", .imm, .lit " goto ", .sdecOff], false, false⟩,
   ⟨"JMP_JEQ_X", 0x1d00000000000000, 0xff00000000000000, 0xffffffff00000000, .rendered [.lit "if r", .dst, .lit " == r", .src, .lit " goto ", .sdecOff], false, false⟩,
   ⟨"JMP32_JEQ_K", 0x1600000000000000, 0xff00000000000000, 0xff0fffffffffffff, .rendered [.lit "if r", .dst, .lit " == ", .imm, .lit " goto ", .sdecOff], false, false⟩,
   ⟨"JMP32_JEQ_X", 0x1e00000000000000, 0xff00000000000000, 0xffffffff00000000, .rendered [.lit "if r", .dst, .lit " == r", .src, .lit " goto ", .sdecOff], false, false⟩,
   ⟨"JMP_JGT_K", 0x2500000000000000, 0xff00000000000000, 0xff0fffffffffffff, .rendered [.lit "if r", .dst, .lit " > ", .imm, .lit " goto ", .sdecOff], false, false⟩,
   ⟨"JMP_JGT_X", 0x2d00000000000000, 0xff00000000000000, 0xffffffff00000000, .rendered [.lit "if r", .dst, .lit " > r", .src, .lit " goto ", .sdecOff], false, false⟩,
   ⟨"JMP32_JGT_K", 0x2600000000000000, 0xff00000000000000, 0xff0fffffffffffff, .rendered [.lit "if r", .dst, .lit " > ", .imm, .lit " goto ", .sdecOff], false, false⟩,
   ⟨"JMP32_JGT_X", 0x2e00000000000000, 0xff00000000000000, 0xffffffff00000000, .rendered [.lit "if r", .dst, .lit " > r", .src, .lit " goto ", .sdecOff], false, false⟩,
   ⟨"JMP_JGE_K", 0x3500000000000000, 0xff00000000000000, 0xff0fffffffffffff, .rendered [.lit "if r", .dst, .lit " >= ", .imm, .lit " goto ", .sdecOff], false, false⟩,
   ⟨"JMP_JGE_X", 0x3d00000000000000, 0xff00000000000000, 0xffffffff00000000, .rendered [.lit "if r", .dst, .lit " >= r", .src, .lit " goto ", .sdecOff], false, false⟩,
   ⟨"JMP32_JGE_K", 0x3600000000000000, 0xff00000000000000, 0xff0fffffffffffff, .rendered [.lit "if r", .dst, .lit " >= ", .imm, .lit " goto ", .sdecOff], false, false⟩,
   ⟨"JMP32_JGE_X", 0x3e00000000000000, 0xff00000000000000, 0xffffffff00000000, .rendered [.lit "if r", .dst, .lit " >= r", .src, .lit " goto ", .sdecOff], false, false⟩]

/-- Rows 81 to 120 of the table. -/
def opcodeRows2 : List Row :=
  [⟨"JMP_JSET_K", 0x4500000000000000, 0xff00000000000000, 0xff0fffffffffffff, .rendered [.lit "if r", .dst, .lit " & ", .imm, .lit " goto ", .sdecOff], false, false⟩,
   ⟨"JMP_JSET_X", 0x4d00000000000000, 0xff00000000000000, 0xffffffff00000000, .rendered [.lit "if r", .dst, .lit " & r", .src, .lit " goto ", .sdecOff], false, false⟩,
   ⟨"JMP32_JSET_K", 0x4600000000000000, 0xff00000000000000, 0xff0fffffffffffff, .rendered [.lit "if r", .dst, .lit " & ", .imm, .lit " goto ", .sdecOff], false, false⟩,
   ⟨"JMP32_JSET_X", 0x4e00000000000000, 0xff00000000000000, 0xffffffff00000000, .rendered [.lit "if r", .dst, .lit " & r", .src, .lit " goto ", .sdecOff], false, false⟩,
   ⟨"JMP_JNE_K", 0x5500000000000000, 0xff00000000000000, 0xff0fffffffffffff, .rendered [.lit "if r", .dst, .lit " != ", .imm, .lit " goto ", .sdecOff], false, false⟩,
   ⟨"JMP_JNE_X", 0x5d00000000000000, 0xff00000000000000, 0xffffffff00000000, .rendered [.lit "if r", .dst, .lit " != r", .src, .lit " goto ", .sdecOff], false, false⟩,
   ⟨"JMP32_JNE_K", 0x5600000000000000, 0xff00000000000000, 0xff0fffffffffffff, .rendered [.lit "if r", .dst, .lit " != ", .imm, .lit " goto ", .sdecOff], false, false⟩,
   ⟨"JMP32_JNE_X", 0x5e00000000000000, 0xff00000000000000, 0xffffffff00000000, .rendered [.lit "if r", .dst, .lit " != r", .src, .lit " goto ", .sdecOff], false, false⟩,
   ⟨"JMP_JSGT_K", 0x6500000000000000, 0xff00000000000000, 0xff0fffffffffffff, .rendered [.lit "if r", .dst, .lit " s> ", .imm, .lit " goto ", .sdecOff], false, false⟩,
   ⟨"JMP_JSGT_X", 0x6d00000000000000, 0xff00000000000000, 0xffffffff00000000, .rendered [.lit "if r", .dst, .lit " s> r", .src, .lit " goto ", .sdecOff], false, false⟩,
   ⟨"JMP32_JSGT_K", 0x6600000000000000, 0xff00000000000000, 0xff0fffffffffffff, .rendered [.lit "if r", .dst, .lit " s> ", .imm, .lit " goto ", .sdecOff], false, false⟩,
   ⟨"JMP32_JSGT_X", 0x6e00000000000000, 0xff00000000000000, 0xffffffff00000000, .rendered [.lit "if r", .dst, .lit " s> r", .src, .lit " goto ", .sdecOff], false, false⟩,
   ⟨"JMP_JSGE_K", 0x7500000000000000, 0xff00000000000000, 0xff0fffffffffffff, .rendered [.lit "if r", .dst, .lit " s>= ", .imm, .lit " goto ", .sdecOff], false, false⟩,
   ⟨"JMP_JSGE_X", 0x7d00000000000000, 0xff00000000000000, 0xffffffff00000000, .rendered [.lit "if r", .dst, .lit " s>= r", .src, .lit " goto ", .sdecOff], false, false⟩,
   ⟨"JMP32_JSGE_K", 0x7600000000000000, 0xff00000000000000, 0xff0fffffffffffff, .rendered [.lit "if r", .dst, .lit " s>= ", .imm, .lit " goto ", .sdecOff], false, false⟩,
   ⟨"JMP32_JSGE_X", 0x7e00000000000000, 0xff00000000000000, 0xffffffff00000000, .rendered [.lit "if r", .dst, .lit " s>= r", .src, .lit " goto ", .sdecOff], false, false⟩,
   ⟨"JMP_CALL_K_SEL0", 0x8500000000000000, 0xfff0000000000000, 0xfff00000ffffffff, .rendered [.lit "call ", .imm], false, false⟩,
   ⟨"JMP_CALL_K_SEL1", 0x8510000000000000, 0xfff0000000000000, 0xfff0ffff00000000, .rendered [.lit "call ", .sdecOff], false, false⟩,
   ⟨"JMP_CALL_K_SEL2", 0x8520000000000000, 0xfff0000000000000, 0xfff00000ffffffff, .rendered [.lit "call ", .imm], false, false⟩,
   ⟨"JMP_CALL_X_SEL0", 0x8d00000000000000, 0xfff0000000000000, 0xfff00000ffffffff, .rendered [.lit "call ", .imm], false, false⟩,
   ⟨"JMP_CALL_X_SEL1", 0x8d10000000000000, 0xfff0000000000000, 0xfff0ffff00000000, .rendered [.lit "call ", .sdecOff], false, false⟩,
   ⟨"JMP_CALL_X_SEL2", 0x8d20000000000000, 0xfff0000000000000, 0xfff00000ffffffff, .rendered [.lit "call ", .imm], false, false⟩,
   ⟨"JMP32_CALL_K_SEL0", 0x8600000000000000, 0xfff0000000000000, 0xfff00000ffffffff, .rendered [.lit "call ", .imm], false, false⟩,
   ⟨"JMP32_CALL_K_SEL1", 0x8610000000000000, 0xfff0000000000000, 0xfff0ffff00000000, .rendered [.lit "call ", .sdecOff], false, false⟩,
   ⟨"JMP32_CALL_K_SEL2", 0x8620000000000000, 0xfff0000000000000, 0xfff00000ffffffff, .rendered [.lit "call ", .imm], false, false⟩,
   ⟨"JMP32_CALL_X_SEL0", 0x8e00000000000000, 0xfff0000000000000, 0xfff00000ffffffff, .rendered [.lit "call ", .imm], false, false⟩,
   ⟨"JMP32_CALL_X_SEL1", 0x8e10000000000000, 0xfff0000000000000, 0xfff0ffff00000000, .rendered [.lit "call ", .sdecOff], false, false⟩,
   ⟨"JMP32_CALL_X_SEL2", 0x8e20000000000000, 0xfff0000000000000, 0xfff00000ffffffff, .rendered [.lit "call ", .imm], false, false⟩,
   ⟨"JMP_EXIT_K", 0x9500000000000000, 0xff00000000000000, 0xff00000000000000, .rendered [.lit "exit"], false, false⟩,
   ⟨"JMP_EXIT_X", 0x9d00000000000000, 0xff00000000000000, 0xff00000000000000, .rendered [.lit "exit"], false, false⟩,
   ⟨"JMP32_EXIT_K", 0x9600000000000000, 0xff00000000000000, 0xff00000000000000, .rendered [.lit "exit"], false, false⟩,
   ⟨"JMP32_EXIT_X", 0x9e00000000000000, 0xff00000000000000, 0xff00000000000000, .rendered [.lit "exit"], false, false⟩,
   ⟨"JMP_JLT_K", 0xa500000000000000, 0xff00000000000000, 0xff0fffffffffffff, .rendered [.lit "if r", .dst, .lit " < ", .imm, .lit " goto ", .sdecOff], false, false⟩,
   ⟨"JMP_JLT_X", 0xad00000000000000, 0xff00000000000000, 0xffffffff00000000, .rendered [.lit "if r", .dst, .lit " < r", .src, .lit " goto ", .sdecOff], false, false⟩,
   ⟨"JMP32_JLT_K", 0xa600000000000000, 0xff00000000000000, 0xff0fffffffffffff, .rendered [.lit "if r", .dst, .lit " < ", .imm, .lit " goto ", .sdecOff], false, false⟩,
   ⟨"JMP32_JLT_X", 0xae00000000000000, 0xff00000000000000, 0xffffffff00000000, .rendered [.lit "if r", .dst, .lit " < r", .src, .lit " goto ", .sdecOff], false, false⟩,
   ⟨"JMP_JLE_K", 0xb500000000000000, 0xff00000000000000, 0xff0fffffffffffff, .rendered [.lit "if r", .dst, .lit " <= ", .imm, .lit " goto ", .sdecOff], false, false⟩,
   ⟨"JMP_JLE_X", 0xbd00000000000000, 0xff00000000000000, 0xffffffff00000000, .rendered [.lit "if r", .dst, .lit " <= r", .src, .lit " goto ", .sdecOff], false, false⟩,
   ⟨"JMP32_JLE_K", 0xb600000000000000, 0xff00000000000000, 0xff0fffffffffffff, .rendered [.lit "if r", .dst, .lit " <= ", .imm, .lit " goto ", .sdecOff], false, false⟩,
   ⟨"JMP32_JLE_X", 0xbe00000000000000, 0xff00000000000000, 0xffffffff00000000, .rendered [.lit "if r", .dst, .lit " <= r", .src, .lit " goto ", .sdecOff], false, false⟩]

/-- Rows 121 to 160 of the table. -/
def opcodeRows3 : List Row :=
  [⟨"JMP_JSLT_K", 0xc500000000000000, 0xff00000000000000, 0xff0fffffffffffff, .rendered [.lit "if r", .dst, .lit " s< ", .imm, .lit " goto ", .sdecOff], false, false⟩,
   ⟨"JMP_JSLT_X", 0xcd00000000000000, 0xff00000000000000, 0xffffffff00000000, .rendered [.lit "if r", .dst, .lit " s< r", .src, .lit " goto ", .sdecOff], false, false⟩,
   ⟨"JMP32_JSLT_K", 0xc600000000000000, 0xff00000000000000, 0xff0fffffffffffff, .rendered [.lit "if r", .dst, .lit " s< ", .imm, .lit " goto ", .sdecOff], false, false⟩,
   ⟨"JMP32_JSLT_X", 0xce00000000000000, 0xff00000000000000, 0xffffffff00000000, .rendered [.lit "if r", .dst, .lit " s< r", .src, .lit " goto ", .sdecOff], false, false⟩,
   ⟨"JMP_JSLE_K", 0xd500000000000000, 0xff00000000000000, 0xff0fffffffffffff, .rendered [.lit "if r", .dst, .lit " s<= ", .imm, .lit " goto ", .sdecOff], false, false⟩,
   ⟨"JMP_JSLE_X", 0xdd00000000000000, 0xff00000000000000, 0xffffffff00000000, .rendered [.lit "if r", .dst, .lit " s<= r", .src, .lit " goto ", .sdecOff], false, false⟩,
   ⟨"JMP32_JSLE_K", 0xd600000000000000, 0xff00000000000000, 0xff0fffffffffffff, .rendered [.lit "if r", .dst, .lit " s<= ", .imm, .lit " goto ", .sdecOff], false, false⟩,
   ⟨"JMP32_JSLE_X", 0xde00000000000000, 0xff00000000000000, 0xffffffff00000000, .rendered [.lit "if r", .dst, .lit " s<= r", .src, .lit " goto ", .sdecOff], false, false⟩,
   ⟨"LD_IMM_LITERAL64", 0x0000000000000000, 0xe4f0000000000000, 0xffff0000ffffffff, .rendered [.lit "r", .dst, .lit " = ", .imm64, .lit " ll"], true, false⟩,
   ⟨"LD_IMM_MAP_BY_FD", 0x0010000000000000, 0xe4f0000000000000, 0xffff0000ffffffff, .rendered [.lit "r", .dst, .lit " = map_by_fd(", .imm, .lit ")"], true, false⟩,
   ⟨"LD_IMM_MAP_VAL_BY_FD", 0x0020000000000000, 0xe4f0000000000000, 0xffff0000ffffffff, .rendered [.lit "r", .dst, .lit " = map_val(map_by_fd(", .imm, .lit ")) + ", .nextImm], true, false⟩,
   ⟨"LD_IMM_VAR_ADDR", 0x0030000000000000, 0xe4f0000000000000, 0xffff0000ffffffff, .rendered [.lit "r", .dst, .lit " = var_addr(", .imm, .lit ")"], true, false⟩,
   ⟨"LD_IMM_CODE_ADDR", 0x0040000000000000, 0xe4f0000000000000, 0xffff0000ffffffff, .rendered [.lit "r", .dst, .lit " = code_addr(", .imm, .lit ")"], true, false⟩,
   ⟨"LD_IMM_MAP_BY_IDX", 0x0050000000000000, 0xe4f0000000000000, 0xffff0000ffffffff, .rendered [.lit "r", .dst, .lit " = map_by_idx(", .imm, .lit ")"], true, false⟩,
   ⟨"LD_IMM_MAP_VAL_BY_IDX", 0x0060000000000000, 0xe4f0000000000000, 0xffff0000ffffffff, .rendered [.lit "r", .dst, .lit " = map_val(map_by_idx(", .imm, .lit ")) + ", .nextImm], true, false⟩,
   ⟨"LD_ABS_W", 0x2000000000000000, 0xff00000000000000, 0xff00000000000000, .unsupported .legacyAbs, false, false⟩,
   ⟨"LDX_ABS_W", 0x2100000000000000, 0xff00000000000000, 0xff00000000000000, .unsupported .legacyAbs, false, false⟩,
   ⟨"ST_ABS_W", 0x2200000000000000, 0xff00000000000000, 0xff00000000000000, .unsupported .legacyAbs, false, false⟩,
   ⟨"STX_ABS_W", 0x2300000000000000, 0xff00000000000000, 0xff00000000000000, .unsupported .legacyAbs, false, false⟩,
   ⟨"LD_ABS_H", 0x2800000000000000, 0xff00000000000000, 0xff00000000000000, .unsupported .legacyAbs, false, false⟩,
   ⟨"LDX_ABS_H", 0x2900000000000000, 0xff00000000000000, 0xff00000000000000, .unsupported .legacyAbs, false, false⟩,
   ⟨"ST_ABS_H", 0x2a00000000000000, 0xff00000000000000, 0xff00000000000000, .unsupported .legacyAbs, false, false⟩,
   ⟨"STX_ABS_H", 0x2b00000000000000, 0xff00000000000000, 0xff00000000000000, .unsupported .legacyAbs, false, false⟩,
   ⟨"LD_ABS_B", 0x3000000000000000, 0xff00000000000000, 0xff00000000000000, .unsupported .legacyAbs, false, false⟩,
   ⟨"LDX_ABS_B", 0x3100000000000000, 0xff00000000000000, 0xff00000000000000, .unsupported .legacyAbs, false, false⟩,
   ⟨"ST_ABS_B", 0x3200000000000000, 0xff00000000000000, 0xff00000000000000, .unsupported .legacyAbs, false, false⟩,
   ⟨"STX_ABS_B", 0x3300000000000000, 0xff00000000000000, 0xff00000000000000, .unsupported .legacyAbs, false, false⟩,
   ⟨"LD_ABS_DW", 0x3800000000000000, 0xff00000000000000, 0xff00000000000000, .unsupported .legacyAbs, false, false⟩,
   ⟨"LDX_ABS_DW", 0x3900000000000000, 0xff00000000000000, 0xff00000000000000, .unsupported .legacyAbs, false, false⟩,
   ⟨"ST_ABS_DW", 0x3a00000000000000, 0xff00000000000000, 0xff00000000000000, .unsupported .legacyAbs, false, false⟩,
   ⟨"STX_ABS_DW", 0x3b00000000000000, 0xff00000000000000, 0xff00000000000000, .unsupported .legacyAbs, false, false⟩,
   ⟨"LD_IND_W", 0x4000000000000000, 0xff00000000000000, 0xff00000000000000, .unsupported .legacyInd, false, false⟩,
   ⟨"LDX_IND_W", 0x4100000000000000, 0xff00000000000000, 0xff00000000000000, .unsupported .legacyInd, false, false⟩,
   ⟨"ST_IND_W", 0x4200000000000000, 0xff00000000000000, 0xff00000000000000, .unsupported .legacyInd, false, false⟩,
   ⟨"STX_IND_W", 0x4300000000000000, 0xff00000000000000, 0xff00000000000000, .unsupported .legacyInd, false, false⟩,
   ⟨"LD_IND_H", 0x4800000000000000, 0xff00000000000000, 0xff00000000000000, .unsupported .legacyInd, false, false⟩,
   ⟨"LDX_IND_H", 0x4900000000000000, 0xff00000000000000, 0xff00000000000000, .unsupported .legacyInd, false, false⟩,
   ⟨"ST_IND_H", 0x4a00000000000000, 0xff00000000000000, 0xff00000000000000, .unsupported .legacyInd, false, false⟩,
   ⟨"STX_IND_H", 0x4b00000000000000, 0xff00000000000000, 0xff00000000000000, .unsupported .legacyInd, false, false⟩,
   ⟨"LD_IND_B", 0x5000000000000000, 0xff00000000000000, 0xff00000000000000, .unsupported .legacyInd, false, false⟩]

/-- Rows 161 to 200 of the table. -/
def opcodeRows4 : List Row :=
  [⟨"LDX_IND_B", 0x5100000000000000, 0xff00000000000000, 0xff00000000000000, .unsupported .legacyInd, false, false⟩,
   ⟨"ST_IND_B", 0x5200000000000000, 0xff00000000000000, 0xff00000000000000, .unsupported .legacyInd, false, false⟩,
   ⟨"STX_IND_B", 0x5300000000000000, 0xff00000000000000, 0xff00000000000000, .unsupported .legacyInd, false, false⟩,
   ⟨"LD_IND_DW", 0x5800000000000000, 0xff00000000000000, 0xff00000000000000, .unsupported .legacyInd, false, false⟩,
   ⟨"LDX_IND_DW", 0x5900000000000000, 0xff00000000000000, 0xff00000000000000, .unsupported .legacyInd, false, false⟩,
   ⟨"ST_IND_DW", 0x5a00000000000000, 0xff00000000000000, 0xff00000000000000, .unsupported .legacyInd, false, false⟩,
   ⟨"STX_IND_DW", 0x5b00000000000000, 0xff00000000000000, 0xff00000000000000, .unsupported .legacyInd, false, false⟩,
   ⟨"LDX_MEM_W", 0x6100000000000000, 0xff00000000000000, 0xffffffff00000000, .rendered [.lit "r", .dst, .lit " = *(u32 *)(r", .src, .lit " ", .offSign, .lit " ", .offAbs, .lit ")"], false, false⟩,
   ⟨"ST_MEM_W", 0x6200000000000000, 0xff00000000000000, 0xff0fffffffffffff, .rendered [.lit "*(u32 *)(r", .dst, .lit " ", .offSign, .lit " ", .offAbs, .lit ") = ", .imm], false, false⟩,
   ⟨"STX_MEM_W", 0x6300000000000000, 0xff00000000000000, 0xffffffff00000000, .rendered [.lit "*(u32 *)(r", .dst, .lit " ", .offSign, .lit " ", .offAbs, .lit ") = r", .src], false, false⟩,
   ⟨"LDX_MEM_H", 0x6900000000000000, 0xff00000000000000, 0xffffffff00000000, .rendered [.lit "r", .dst, .lit " = *(u16 *)(r", .src, .lit " ", .offSign, .lit " ", .offAbs, .lit ")"], false, false⟩,
   ⟨"ST_MEM_H", 0x6a00000000000000, 0xff00000000000000, 0xff0fffffffffffff, .rendered [.lit "*(u16 *)(r", .dst, .lit " ", .offSign, .lit " ", .offAbs, .lit ") = ", .imm], false, false⟩,
   ⟨"STX_MEM_H", 0x6b00000000000000, 0xff00000000000000, 0xffffffff00000000, .rendered [.lit "*(u16 *)(r", .dst, .lit " ", .offSign, .lit " ", .offAbs, .lit ") = r", .src], false, false⟩,
   ⟨"LDX_MEM_B", 0x7100000000000000, 0xff00000000000000, 0xffffffff00000000, .rendered [.lit "r", .dst, .lit " = *(u8 *)(r", .src, .lit " ", .offSign, .lit " ", .offAbs, .lit ")"], false, false⟩,
   ⟨"ST_MEM_B", 0x7200000000000000, 0xff00000000000000, 0xff0fffffffffffff, .rendered [.lit "*(u8 *)(r", .dst, .lit " ", .offSign, .lit " ", .offAbs, .lit ") = ", .imm], false, false⟩,
   ⟨"STX_MEM_B", 0x7300000000000000, 0xff00000000000000, 0xffffffff00000000, .rendered [.lit "*(u8 *)(r", .dst, .lit " ", .offSign, .lit " ", .offAbs, .lit ") = r", .src], false, false⟩,
   ⟨"LDX_MEM_DW", 0x7900000000000000, 0xff00000000000000, 0xffffffff00000000, .rendered [.lit "r", .dst, .lit " = *(u64 *)(r", .src, .lit " ", .offSign, .lit " ", .offAbs, .lit ")"], false, false⟩,
   ⟨"ST_MEM_DW", 0x7a00000000000000, 0xff00000000000000, 0xff0fffffffffffff, .rendered [.lit "*(u64 *)(r", .dst, .lit " ", .offSign, .lit " ", .offAbs, .lit ") = ", .imm], false, false⟩,
   ⟨"STX_MEM_DW", 0x7b00000000000000, 0xff00000000000000, 0xffffffff00000000, .rendered [.lit "*(u64 *)(r", .dst, .lit " ", .offSign, .lit " ", .offAbs, .lit ") = r", .src], false, false⟩,
   ⟨"LDX_MEMSX_W", 0x8100000000000000, 0xff00000000000000, 0xffffffff00000000, .rendered [.lit "r", .dst, .lit " = *(s32 *)(r", .src, .lit " ", .offSign, .lit " ", .offAbs, .lit ")"], false, false⟩,
   ⟨"LDX_MEMSX_H", 0x8900000000000000, 0xff00000000000000, 0xffffffff00000000, .rendered [.lit "r", .dst, .lit " = *(s16 *)(r", .src, .lit " ", .offSign, .lit " ", .offAbs, .lit ")"], false, false⟩,
   ⟨"LDX_MEMSX_B", 0x9100000000000000, 0xff00000000000000, 0xffffffff00000000, .rendered [.lit "r", .dst, .lit " = *(s8 *)(r", .src, .lit " ", .offSign, .lit " ", .offAbs, .lit ")"], false, false⟩,
   ⟨"LDX_MEMSX_DW", 0x9900000000000000, 0xff00000000000000, 0xffffffff00000000, .rendered [.lit "r", .dst, .lit " = *(s64 *)(r", .src, .lit " ", .offSign, .lit " ", .offAbs, .lit ")"], false, false⟩,
   ⟨"STX_ATOMIC_W_ADD", 0xc300000000000000, 0xff000000ffffffff, 0xffffffffffffffff, .rendered [.lit "*(u32 *)(r", .dst, .lit " ", .offSign, .lit " ", .offAbs, .lit ") += r", .src], false, false⟩,
   ⟨"STX_ATOMIC_W_OR", 0xc300000040000000, 0xff000000ffffffff, 0xffffffffffffffff, .rendered [.lit "*(u32 *)(r", .dst, .lit " ", .offSign, .lit " ", .offAbs, .lit ") |= r", .src], false, false⟩,
   ⟨"STX_ATOMIC_W_AND", 0xc300000050000000, 0xff000000ffffffff, 0xffffffffffffffff, .rendered [.lit "*(u32 *)(r", .dst, .lit " ", .offSign, .lit " ", .offAbs, .lit ") &= r", .src], false, false⟩,
   ⟨"STX_ATOMIC_W_XOR", 0xc3000000a0000000, 0xff000000ffffffff, 0xffffffffffffffff, .rendered [.lit "*(u32 *)(r", .dst, .lit " ", .offSign, .lit " ", .offAbs, .lit ") ^= r", .src], false, false⟩,
   ⟨"STX_ATOMIC_W_FETCH_ADD", 0xc300000001000000, 0xff000000ffffffff, 0xff000000ffffffff, .unsupported .atomicFetch, false, false⟩,
   ⟨"STX_ATOMIC_W_FETCH_OR", 0xc300000041000000, 0xff000000ffffffff, 0xff000000ffffffff, .unsupported .atomicFetch, false, false⟩,
   ⟨"STX_ATOMIC_W_FETCH_AND", 0xc300000051000000, 0xff000000ffffffff, 0xff000000ffffffff, .unsupported .atomicFetch, false, false⟩,
   ⟨"STX_ATOMIC_W_FETCH_XOR", 0xc3000000a1000000, 0xff000000ffffffff, 0xff000000ffffffff, .unsupported .atomicFetch, false, false⟩,
   ⟨"STX_ATOMIC_W_XCHG", 0xc3000000e0000000, 0xff000000feffffff, 0xff000000ffffffff, .unsupported .atomicXchg, false, false⟩,
   ⟨"STX_ATOMIC_W_CMPXCHG", 0xc3000000f0000000, 0xff000000feffffff, 0xff000000ffffffff, .unsupported .atomicCmpxchg, false, false⟩,
   ⟨"STX_ATOMIC_DW_ADD", 0xdb00000000000000, 0xff000000ffffffff, 0xffffffffffffffff, .rendered [.lit "*(u64 *)(r", .dst, .lit " ", .offSign, .lit " ", .offAbs, .lit ") += r", .src], false, false⟩,
   ⟨"STX_ATOMIC_DW_OR", 0xdb00000040000000, 0xff000000ffffffff, 0xffffffffffffffff, .rendered [.lit "*(u64 *)(r", .dst, .lit " ", .offSign, .lit " ", .offAbs, .lit ") |= r", .src], false, false⟩,
   ⟨"STX_ATOMIC_DW_AND", 0xdb00000050000000, 0xff000000ffffffff, 0xffffffffffffffff, .rendered [.lit "*(u64 *)(r", .dst, .lit " ", .offSign, .lit " ", .offAbs, .lit ") &= r", .src], false, false⟩,
   ⟨"STX_ATOMIC_DW_XOR", 0xdb000000a0000000, 0xff000000ffffffff, 0xffffffffffffffff, .rendered [.lit "*(u64 *)(r", .dst, .lit " ", .offSign, .lit " ", .offAbs, .lit ") ^= r", .src], false, false⟩,
   ⟨"STX_ATOMIC_DW_FETCH_ADD", 0xdb00000001000000, 0xff000000ffffffff, 0xff000000ffffffff, .unsupported .atomicFetch, false, false⟩,
   ⟨"STX_ATOMIC_DW_FETCH_OR", 0xdb00000041000000, 0xff000000ffffffff, 0xff000000ffffffff, .unsupported .atomicFetch, false, false⟩,
   ⟨"STX_ATOMIC_DW_FETCH_AND", 0xdb00000051000000, 0xff000000ffffffff, 0xff000000ffffffff, .unsupported .atomicFetch, false, false⟩]

/-- Rows 201 to 233 of the table. -/
def opcodeRows5 : List Row :=
  [⟨"STX_ATOMIC_DW_FETCH_XOR", 0xdb000000a1000000, 0xff000000ffffffff, 0xff000000ffffffff, .unsupported .atomicFetch, false, false⟩,
   ⟨"STX_ATOMIC_DW_XCHG", 0xdb000000e0000000, 0xff000000feffffff, 0xff000000ffffffff, .unsupported .atomicXchg, false, false⟩,
   ⟨"STX_ATOMIC_DW_CMPXCHG", 0xdb000000f0000000, 0xff000000feffffff, 0xff000000ffffffff, .unsupported .atomicCmpxchg, false, false⟩,
   ⟨"ALU_CODE_E_K", 0xe400000000000000, 0xff00000000000000, 0xff00000000000000, .invalid .arithCode, false, false⟩,
   ⟨"ALU_CODE_E_X", 0xec00000000000000, 0xff00000000000000, 0xff00000000000000, .invalid .arithCode, false, false⟩,
   ⟨"ALU64_CODE_E_K", 0xe700000000000000, 0xff00000000000000, 0xff00000000000000, .invalid .arithCode, false, false⟩,
   ⟨"ALU64_CODE_E_X", 0xef00000000000000, 0xff00000000000000, 0xff00000000000000, .invalid .arithCode, false, false⟩,
   ⟨"ALU_CODE_F_K", 0xf400000000000000, 0xff00000000000000, 0xff00000000000000, .invalid .arithCode, false, false⟩,
   ⟨"ALU_CODE_F_X", 0xfc00000000000000, 0xff00000000000000, 0xff00000000000000, .invalid .arithCode, false, false⟩,
   ⟨"ALU64_CODE_F_K", 0xf700000000000000, 0xff00000000000000, 0xff00000000000000, .invalid .arithCode, false, false⟩,
   ⟨"ALU64_CODE_F_X", 0xff00000000000000, 0xff00000000000000, 0xff00000000000000, .invalid .arithCode, false, false⟩,
   ⟨"JMP_CODE_E_K", 0xe500000000000000, 0xff00000000000000, 0xff00000000000000, .invalid .jumpCode, false, false⟩,
   ⟨"JMP_CODE_E_X", 0xed00000000000000, 0xff00000000000000, 0xff00000000000000, .invalid .jumpCode, false, false⟩,
   ⟨"JMP32_CODE_E_K", 0xe600000000000000, 0xff00000000000000, 0xff00000000000000, .invalid .jumpCode, false, false⟩,
   ⟨"JMP32_CODE_E_X", 0xee00000000000000, 0xff00000000000000, 0xff00000000000000, .invalid .jumpCode, false, false⟩,
   ⟨"JMP_CODE_F_K", 0xf500000000000000, 0xff00000000000000, 0xff00000000000000, .invalid .jumpCode, false, false⟩,
   ⟨"JMP_CODE_F_X", 0xfd00000000000000, 0xff00000000000000, 0xff00000000000000, .invalid .jumpCode, false, false⟩,
   ⟨"JMP32_CODE_F_K", 0xf600000000000000, 0xff00000000000000, 0xff00000000000000, .invalid .jumpCode, false, false⟩,
   ⟨"JMP32_CODE_F_X", 0xfe00000000000000, 0xff00000000000000, 0xff00000000000000, .invalid .jumpCode, false, false⟩,
   ⟨"JMP_CALL_K_SEL_OTHER", 0x8500000000000000, 0xff00000000000000, 0xfff0000000000000, .invalid .callSelector, false, false⟩,
   ⟨"JMP_CALL_X_SEL_OTHER", 0x8d00000000000000, 0xff00000000000000, 0xfff0000000000000, .invalid .callSelector, false, false⟩,
   ⟨"JMP32_CALL_K_SEL_OTHER", 0x8600000000000000, 0xff00000000000000, 0xfff0000000000000, .invalid .callSelector, false, false⟩,
   ⟨"JMP32_CALL_X_SEL_OTHER", 0x8e00000000000000, 0xff00000000000000, 0xfff0000000000000, .invalid .callSelector, false, false⟩,
   ⟨"LD_IMM_SEL_OTHER", 0x0000000000000000, 0xe400000000000000, 0xfff0000000000000, .invalid .immSelector, true, false⟩,
   ⟨"LD_MEM_ANY", 0x6000000000000000, 0xe700000000000000, 0xff00000000000000, .invalid .memClass, false, false⟩,
   ⟨"NOTLDX_MEMSX_ANY", 0x8000000000000000, 0xe400000000000000, 0xff00000000000000, .invalid .memsxClass, false, false⟩,
   ⟨"ANY_ATOMIC_H", 0xc800000000000000, 0xfc00000000000000, 0xff00000000000000, .invalid .atomicSize, false, false⟩,
   ⟨"ANY_ATOMIC_B", 0xd000000000000000, 0xfc00000000000000, 0xff00000000000000, .invalid .atomicSize, false, false⟩,
   ⟨"STX_ATOMIC_W_OP_OTHER", 0xc300000000000000, 0xff00000000000000, 0xff000000ffffffff, .invalid .atomicOp, false, false⟩,
   ⟨"STX_ATOMIC_DW_OP_OTHER", 0xdb00000000000000, 0xff00000000000000, 0xff000000ffffffff, .invalid .atomicOp, false, false⟩,
   ⟨"NOTSTX_ATOMIC_ANY", 0xc000000000000000, 0xe400000000000000, 0xff00000000000000, .invalid .atomicClass, false, false⟩,
   ⟨"ANY_MODE5", 0xa000000000000000, 0xe400000000000000, 0xff00000000000000, .invalid .lsMode, false, false⟩,
   ⟨"ANY_MODE7", 0xe000000000000000, 0xe400000000000000, 0xff00000000000000, .invalid .lsMode, false, false⟩]

/-- The whole table, in file order. -/
def opcodeTable : List Row :=
  opcodeRows0 ++ opcodeRows1 ++ opcodeRows2 ++ opcodeRows3 ++ opcodeRows4 ++ opcodeRows5

/-- Whether the row matches a basic word. -/
def Row.isMatch (r : Row) (w : Word) : Bool := w &&& r.mask == r.pattern

/-- The first row that matches decides (R75). -/
def rowOf (w : Word) : Option Row := opcodeTable.find? (fun r => r.isMatch w)

/-- The text of one piece on an instruction's two words. -/
def Piece.text (w e : Word) : Piece → String
  | .lit s => s
  | .dst => decNat (dstOf w).toNat
  | .src => decNat (srcOf w).toNat
  | .imm => dec (immOf w).toInt
  | .imm64 => dec (imm64Of w e).toInt
  | .nextImm => dec (immOf e).toInt
  | .sdecOff => sdec (offOf w).toInt
  | .offSign => offOp (offOf w).toInt
  | .offAbs => offMag (offOf w).toInt

/-- The result a row gives on an instruction's two words. -/
def Row.render (r : Row) (w e : Word) : RenderResult :=
  match r.status with
  | .rendered text => .ok (String.join (text.map (Piece.text w e)))
  | .unsupported reason => .unsupported reason
  | .invalid reason => .invalid reason

end Sys2Proof.Machine
end

