-- ==== Sys2Proof/Machine/Line.lean ====
section
/-! DEFINITION. `RenderLine` and the listing of a Program (30_encoding.md section 8, 60_exceptions.md R237, R238). -/

namespace Sys2Proof.Machine

open Sys2Proof

/-- The configuration inputs of a line-render call; not state (R16). -/
structure LineConfig where
  number : Bool := Config.defaultNumber
  bytes : Bool := Config.defaultBytes
deriving DecidableEq, Repr

/-- The index prefix, when it is on (R90, R91). -/
def indexText (cfg : LineConfig) (i width : Nat) : String := if cfg.number then pad i width ++ ": " else ""

/-- The hex dump, when it is on: the basic word, then the extension word of an extended instruction (R90, R92). -/
def dumpText (cfg : LineConfig) (ins : Instruction) : String :=
  if cfg.bytes then
    hex16 ins.basic ++ (if ins.isExtended then ((ins.extension.map hex16).getD "") else "") ++ " "
  else ""

/-- What `RenderLine` ends with: a line, or the condition of `Render` with the slot index (R94, R236). -/
inductive LineResult
  | ok (line : String)
  | condition (c : Condition)
  /-- `Render` has no result on this record (`RenderResult.notAnInstruction`); log entry 3. -/
  | notAnInstruction
deriving DecidableEq, Repr

/-- `RenderLine(i, instr, width, cfg_number, cfg_bytes)` (R90, R94). -/
def renderLine (i : Nat) (ins : Instruction) (width : Nat) (cfg : LineConfig) : LineResult :=
  match render ins with
  | .ok t => .ok (indexText cfg i width ++ dumpText cfg ins ++ t)
  | .unsupported r => .condition (.unsupportedEncoding r (some i))
  | .invalid r => .condition (.invalidOpcode r (some i))
  | .notAnInstruction => .notAnInstruction

/-- Whether the host, met by `UnsupportedEncoding` at a slot, skips the line and goes on or aborts the listing: "recoverable by
the caller's choice" (R237). -/
inductive OnUnsupported
  | skip | abort
deriving DecidableEq, Repr

/-- A listing: its lines in index order, and how it ended. -/
structure Listing where
  lines : List String
  ended : Condition
deriving DecidableEq, Repr

/-- The listing of the slots from index `i` on: one line for each head slot (R93); `UnsupportedEncoding` skips or aborts by
the host's choice for that slot (R237, R240); `InvalidOpcode` always ends it, with the lines before that slot only (R238).
DESIGN CHOICE: `choice` is a function of the slot index, so a host may skip one slot and abort at a later one; the spec does not
say whether one choice holds for a whole listing, and a host of one choice is the constant function (log entry 11). -/
def listFrom (choice : Nat → OnUnsupported) (cfg : LineConfig) (width : Nat) : Nat → Memory → Listing
  | _, [] => ⟨[], .ok⟩
  | i, h :: rest =>
    let later := listFrom choice cfg width (i + 1) rest
    if h.isExtSlot then later
    else
      match renderLine i ⟨h.word, if isExtended h.word then rest.head?.map Slot.word else none, isExtended h.word⟩ width cfg with
      | .ok line => ⟨line :: later.lines, later.ended⟩
      | .condition (.unsupportedEncoding r slot) =>
          match choice i with
          | .skip => later
          | .abort => ⟨[], .unsupportedEncoding r slot⟩
      | .condition c => ⟨[], c⟩
      | .notAnInstruction => ⟨[], .missingExtensionWord i⟩

/-- The listing of a Program (R91, R93): the width is that of the highest index over all slots. -/
def listing (choice : Nat → OnUnsupported) (cfg : LineConfig) (m : Memory) : Listing :=
  listFrom choice cfg (indexWidth (Memory.slotCount m)) 0 m

end Sys2Proof.Machine
end

