-- ==== Sys2Proof/Machine/Loader.lean ====
section
/-! DEFINITION. The ProgramLoader's contract (20_memory.md sections 3 and 6): the pairing scan, and the two input formats
with the loader conditions. The container parser and the file reader themselves are outside the hardware (00_scope.md
section 3): an ELF file is here the list of its sections, each a name and its bytes. -/

namespace Sys2Proof.Machine

open Sys2Proof

/-- `Pair` from word index `i` on (R36): a left-to-right scan; an extended head takes the next word as its extension,
whatever that word's opcode is, and an extended head at the end raises `MissingExtensionWord` (R37). -/
def pairFrom : Nat → List Word → Except Condition Memory
  | _, [] => .ok []
  | i, [w] => if isExtended w then .error (.missingExtensionWord i) else .ok [⟨w, false⟩]
  | i, w :: e :: ws =>
    if isExtended w then
      match pairFrom (i + 2) ws with
      | .ok m => .ok (⟨w, false⟩ :: ⟨e, true⟩ :: m)
      | .error c => .error c
    else
      match pairFrom (i + 1) (e :: ws) with
      | .ok m => .ok (⟨w, false⟩ :: m)
      | .error c => .error c

/-- `Pair(words)` (R36). -/
def pair (ws : List Word) : Except Condition Memory := pairFrom 0 ws

/-- The words of a byte stream whose length is a multiple of 8, big-endian per word (R33). -/
def wordsOf : Nat → List Byte → List Word
  | 0, _ => []
  | n + 1, bs =>
    match takeWord bs with
    | some (w, rest) => w :: wordsOf n rest
    | none => []

/-- The words of a byte stream, or `MalformedEncoding` when its length is not a multiple of 8 (R40, R41). -/
def wordsOfBytes (bs : List Byte) : Except Condition (List Word) :=
  if bs.length % 8 = 0 then .ok (wordsOf (bs.length / 8) bs) else .error (.malformedEncoding (.length bs.length))

/-- A byte stream to a Program: length, then words, then pairing (R265, R240). -/
def loadBytes (bs : List Byte) : Except Condition Memory :=
  match wordsOfBytes bs with
  | .ok ws => pair ws
  | .error c => .error c

/-- The sections of an ELF file, by name. -/
abbrev Sections := List (String × List Byte)

/-- ELF input: the named section's bytes, or `SectionNotFound` with the names there are (R40, R44). -/
def loadElf (sections : Sections) (name : String) : Except Condition Memory :=
  match sections.find? (fun p => p.1 == name) with
  | some p => loadBytes p.2
  | none => .error (.sectionNotFound (sections.map Prod.fst))

/-- The value of a hexadecimal digit, both cases accepted (R42, decision D31). -/
def hexValue (c : Char) : Option Nat :=
  if '0' ≤ c ∧ c ≤ '9' then some (c.toNat - '0'.toNat)
  else if 'a' ≤ c ∧ c ≤ 'f' then some (c.toNat - 'a'.toNat + 10)
  else if 'A' ≤ c ∧ c ≤ 'F' then some (c.toNat - 'A'.toNat + 10)
  else none

/-- The number a string of hexadecimal digits writes, the first the most significant. -/
def hexNumber : Nat → List Char → Option Nat
  | acc, [] => some acc
  | acc, c :: cs =>
    match hexValue c with
    | some d => hexNumber (16 * acc + d) cs
    | none => none

/-- One 16-character chunk as a word; none when a character is no hexadecimal digit (R42, R43). -/
def chunkWord (cs : List Char) : Option Word := (hexNumber 0 cs).map (BitVec.ofNat 64)

/-- The first `n` 16-character chunks. -/
def chunksOf : Nat → List Char → List (List Char)
  | 0, _ => []
  | n + 1, cs => cs.take 16 :: chunksOf n (cs.drop 16)

/-- The pairing scan over parsed chunks from index `i` on: an unparsable chunk that an extended head needs is
`MissingExtensionWord` of that head, any other is `MalformedEncoding` of its index (R43, decision D31). -/
def pairChunks : Nat → List (Option Word) → Except Condition Memory
  | _, [] => .ok []
  | i, none :: _ => .error (.malformedEncoding (.chunk i))
  | i, [some w] => if isExtended w then .error (.missingExtensionWord i) else .ok [⟨w, false⟩]
  | i, some w :: next :: ws =>
    if isExtended w then
      match next with
      | none => .error (.missingExtensionWord i)
      | some e =>
        match pairChunks (i + 2) ws with
        | .ok m => .ok (⟨w, false⟩ :: ⟨e, true⟩ :: m)
        | .error c => .error c
    else
      match pairChunks (i + 1) (next :: ws) with
      | .ok m => .ok (⟨w, false⟩ :: m)
      | .error c => .error c

/-- ASCII input: white space stripped, the length a multiple of 16, each chunk a word (R42, R43). -/
def loadAscii (text : String) : Except Condition Memory :=
  let cs := text.toList.filter (fun c => !c.isWhitespace)
  if cs.length % 16 = 0 then pairChunks 0 ((chunksOf (cs.length / 16) cs).map chunkWord)
  else .error (.malformedEncoding (.length cs.length))

end Sys2Proof.Machine
end

