-- ==== Sys2Proof/Machine/Operations.lean ====
section
/-! DEFINITION. The stepper's four operations as the host issues them (45_stepper.md R200 to R204, R211), and a sequence
of operations as the fold of the rules over it (20_memory.md R45). -/

namespace Sys2Proof.Machine

open Sys2Proof

/-- The operations of the stepper (00_scope.md section 5). -/
inductive Operation
  | reset
  | loadProgram (p : Memory)
  | nextInstruction
  | executeStep
deriving DecidableEq, Repr

/-- What an operation hands back: a condition code, or the Instruction that `NextInstruction` peeks (R200). -/
inductive Response
  | condition (c : Condition)
  | instruction (i : Instruction)
deriving DecidableEq, Repr

/-- `NextInstruction()` (R203): it reads the program and `pc` and writes nothing, so it answers no state. -/
def State.nextInstruction (s : State) : Except Fault Response :=
  match s.prog[s.pc.toNat]? with
  | none => .ok (.condition .endOfProgram)
  | some head =>
    match instrAt s.prog s.pc.toNat head with
    | .error f => .error f
    | .ok i => .ok (.instruction i)

/-- One operation: the new state and the response (R200, R201). -/
def operate (o : Operation) (s : State) : Host.Outcome (State × Response) Fault Refusal :=
  match o with
  | .reset => .next (s.doReset, .condition .ok)
  | .loadProgram p => .next (s.loadProgram p, .condition .ok)
  | .nextInstruction =>
    match s.nextInstruction with
    | .ok r => .next (s, r)
    | .error f => .fault f
  | .executeStep =>
    match step s with
    | .next t => .next (t, .condition t.result)
    | .fault f => .fault f
    | .refused r => .refused r

/-- The responses to a sequence of operations issued one at a time, and the state after it (R45). -/
def operateAll : List Operation → State → Host.Outcome (State × List Response) Fault Refusal
  | [], s => .next (s, [])
  | o :: os, s =>
    match operate o s with
    | .fault f => .fault f
    | .refused r => .refused r
    | .next (t, a) =>
      match operateAll os t with
      | .fault f => .fault f
      | .refused r => .refused r
      | .next (u, as) => .next (u, a :: as)

end Sys2Proof.Machine
end

