-- ==== Sys2Proof/Safety.lean ====
section
/-! DEFINITION. What claims about runs are stated in: the invariant of a stepper with a paired program (45_stepper.md
R209), and the register check of a program (R205). -/

namespace Sys2Proof

open Sys2Proof.Machine

/-- The slot `pc` points at, when there is one, is a head. -/
def Machine.State.atHead (s : State) : Bool :=
  match s.prog[s.pc.toNat]? with
  | some h => !h.isExtSlot
  | none => true

/-- The invariant of R209: the store is one that `Pair` makes, (a) `pc <= L`, (b) `pc` never points at an extension slot,
(c) Halted means `pc = L`. That every register holds a 64-bit pattern (d) is `State`'s own type. -/
structure Machine.State.Inv (s : State) : Prop where
  store : Memory.wf s.prog = true
  bound : s.pc.toNat ≤ Memory.slotCount s.prog
  head : s.atHead = true
  halted : s.state = .halted → s.pc.toNat = Memory.slotCount s.prog

/-- The registers an instruction indexes in the stepper: `dst`, and `src` under Source X, of the nine interpreted codes; an
instruction of the no-operation set indexes none (R12, R205, R206). -/
def Instr.registers : Instr → List RegField
  | .aluAddK dst _ => [dst]
  | .aluAddX dst src => [dst, src]
  | .alu64AddK dst _ => [dst]
  | .alu64AddX dst src => [dst, src]
  | .aluSubK dst _ => [dst]
  | .aluSubX dst src => [dst, src]
  | .alu64SubK dst _ => [dst]
  | .alu64SubX dst src => [dst, src]
  | .aluMulK dst _ => [dst]
  | .aluMulX dst src => [dst, src]
  | .alu64MulK dst _ => [dst]
  | .alu64MulX dst src => [dst, src]
  | .aluDivKSrc0 _ => []
  | .aluDivK _ _ _ => []
  | .aluDivXSrc0 _ => []
  | .aluDivX _ _ => []
  | .alu64DivKSrc0 _ => []
  | .alu64DivK _ _ _ => []
  | .alu64DivXSrc0 _ => []
  | .alu64DivX _ _ => []
  | .aluOrK dst _ => [dst]
  | .aluOrX dst src => [dst, src]
  | .alu64OrK dst _ => [dst]
  | .alu64OrX dst src => [dst, src]
  | .aluAndK dst _ => [dst]
  | .aluAndX dst src => [dst, src]
  | .alu64AndK dst _ => [dst]
  | .alu64AndX dst src => [dst, src]
  | .aluLshK dst _ => [dst]
  | .aluLshX dst src => [dst, src]
  | .alu64LshK dst _ => [dst]
  | .alu64LshX dst src => [dst, src]
  | .aluRshK dst _ => [dst]
  | .aluRshX dst src => [dst, src]
  | .alu64RshK dst _ => [dst]
  | .alu64RshX dst src => [dst, src]
  | .aluNegK _ _ => []
  | .aluNegX _ _ => []
  | .alu64NegK _ _ => []
  | .alu64NegX _ _ => []
  | .aluModKSrc0 _ => []
  | .aluModK _ _ _ => []
  | .aluModXSrc0 _ => []
  | .aluModX _ _ => []
  | .alu64ModKSrc0 _ => []
  | .alu64ModK _ _ _ => []
  | .alu64ModXSrc0 _ => []
  | .alu64ModX _ _ => []
  | .aluXorK dst _ => [dst]
  | .aluXorX dst src => [dst, src]
  | .alu64XorK dst _ => [dst]
  | .alu64XorX dst src => [dst, src]
  | .aluMovK dst _ => [dst]
  | .aluMovX dst src => [dst, src]
  | .alu64MovK dst _ => [dst]
  | .alu64MovX dst src => [dst, src]
  | .aluArshK _ _ => []
  | .aluArshX _ _ => []
  | .alu64ArshK _ _ => []
  | .alu64ArshX _ _ => []
  | .aluEndK => []
  | .aluEndX => []
  | .alu64EndK => []
  | .alu64EndX => []
  | .jmpJaK _ => []
  | .jmpJaX _ => []
  | .jmp32JaK _ => []
  | .jmp32JaX _ => []
  | .jmpJeqK _ _ _ => []
  | .jmpJeqX _ _ _ => []
  | .jmp32JeqK _ _ _ => []
  | .jmp32JeqX _ _ _ => []
  | .jmpJgtK _ _ _ => []
  | .jmpJgtX _ _ _ => []
  | .jmp32JgtK _ _ _ => []
  | .jmp32JgtX _ _ _ => []
  | .jmpJgeK _ _ _ => []
  | .jmpJgeX _ _ _ => []
  | .jmp32JgeK _ _ _ => []
  | .jmp32JgeX _ _ _ => []
  | .jmpJsetK _ _ _ => []
  | .jmpJsetX _ _ _ => []
  | .jmp32JsetK _ _ _ => []
  | .jmp32JsetX _ _ _ => []
  | .jmpJneK _ _ _ => []
  | .jmpJneX _ _ _ => []
  | .jmp32JneK _ _ _ => []
  | .jmp32JneX _ _ _ => []
  | .jmpJsgtK _ _ _ => []
  | .jmpJsgtX _ _ _ => []
  | .jmp32JsgtK _ _ _ => []
  | .jmp32JsgtX _ _ _ => []
  | .jmpJsgeK _ _ _ => []
  | .jmpJsgeX _ _ _ => []
  | .jmp32JsgeK _ _ _ => []
  | .jmp32JsgeX _ _ _ => []
  | .jmpCallKSel0 _ => []
  | .jmpCallKSel1 _ => []
  | .jmpCallKSel2 _ => []
  | .jmpCallXSel0 _ => []
  | .jmpCallXSel1 _ => []
  | .jmpCallXSel2 _ => []
  | .jmp32CallKSel0 _ => []
  | .jmp32CallKSel1 _ => []
  | .jmp32CallKSel2 _ => []
  | .jmp32CallXSel0 _ => []
  | .jmp32CallXSel1 _ => []
  | .jmp32CallXSel2 _ => []
  | .jmpExitK => []
  | .jmpExitX => []
  | .jmp32ExitK => []
  | .jmp32ExitX => []
  | .jmpJltK _ _ _ => []
  | .jmpJltX _ _ _ => []
  | .jmp32JltK _ _ _ => []
  | .jmp32JltX _ _ _ => []
  | .jmpJleK _ _ _ => []
  | .jmpJleX _ _ _ => []
  | .jmp32JleK _ _ _ => []
  | .jmp32JleX _ _ _ => []
  | .jmpJsltK _ _ _ => []
  | .jmpJsltX _ _ _ => []
  | .jmp32JsltK _ _ _ => []
  | .jmp32JsltX _ _ _ => []
  | .jmpJsleK _ _ _ => []
  | .jmpJsleX _ _ _ => []
  | .jmp32JsleK _ _ _ => []
  | .jmp32JsleX _ _ _ => []
  | .ldImmLiteral64 _ _ _ _ _ => []
  | .ldImmMapByFd _ _ _ _ _ => []
  | .ldImmMapValByFd _ _ _ _ _ => []
  | .ldImmVarAddr _ _ _ _ _ => []
  | .ldImmCodeAddr _ _ _ _ _ => []
  | .ldImmMapByIdx _ _ _ _ _ => []
  | .ldImmMapValByIdx _ _ _ _ _ => []
  | .ldAbsW => []
  | .ldxAbsW => []
  | .stAbsW => []
  | .stxAbsW => []
  | .ldAbsH => []
  | .ldxAbsH => []
  | .stAbsH => []
  | .stxAbsH => []
  | .ldAbsB => []
  | .ldxAbsB => []
  | .stAbsB => []
  | .stxAbsB => []
  | .ldAbsDw => []
  | .ldxAbsDw => []
  | .stAbsDw => []
  | .stxAbsDw => []
  | .ldIndW => []
  | .ldxIndW => []
  | .stIndW => []
  | .stxIndW => []
  | .ldIndH => []
  | .ldxIndH => []
  | .stIndH => []
  | .stxIndH => []
  | .ldIndB => []
  | .ldxIndB => []
  | .stIndB => []
  | .stxIndB => []
  | .ldIndDw => []
  | .ldxIndDw => []
  | .stIndDw => []
  | .stxIndDw => []
  | .ldxMemW _ _ _ => []
  | .stMemW _ _ _ => []
  | .stxMemW _ _ _ => []
  | .ldxMemH _ _ _ => []
  | .stMemH _ _ _ => []
  | .stxMemH _ _ _ => []
  | .ldxMemB _ _ _ => []
  | .stMemB _ _ _ => []
  | .stxMemB _ _ _ => []
  | .ldxMemDw _ _ _ => []
  | .stMemDw _ _ _ => []
  | .stxMemDw _ _ _ => []
  | .ldxMemsxW _ _ _ => []
  | .ldxMemsxH _ _ _ => []
  | .ldxMemsxB _ _ _ => []
  | .ldxMemsxDw _ _ _ => []
  | .stxAtomicWAdd _ _ _ => []
  | .stxAtomicWOr _ _ _ => []
  | .stxAtomicWAnd _ _ _ => []
  | .stxAtomicWXor _ _ _ => []
  | .stxAtomicWFetchAdd => []
  | .stxAtomicWFetchOr => []
  | .stxAtomicWFetchAnd => []
  | .stxAtomicWFetchXor => []
  | .stxAtomicWXchg _ => []
  | .stxAtomicWCmpxchg _ => []
  | .stxAtomicDwAdd _ _ _ => []
  | .stxAtomicDwOr _ _ _ => []
  | .stxAtomicDwAnd _ _ _ => []
  | .stxAtomicDwXor _ _ _ => []
  | .stxAtomicDwFetchAdd => []
  | .stxAtomicDwFetchOr => []
  | .stxAtomicDwFetchAnd => []
  | .stxAtomicDwFetchXor => []
  | .stxAtomicDwXchg _ => []
  | .stxAtomicDwCmpxchg _ => []
  | .aluCodeEK => []
  | .aluCodeEX => []
  | .alu64CodeEK => []
  | .alu64CodeEX => []
  | .aluCodeFK => []
  | .aluCodeFX => []
  | .alu64CodeFK => []
  | .alu64CodeFX => []
  | .jmpCodeEK => []
  | .jmpCodeEX => []
  | .jmp32CodeEK => []
  | .jmp32CodeEX => []
  | .jmpCodeFK => []
  | .jmpCodeFX => []
  | .jmp32CodeFK => []
  | .jmp32CodeFX => []
  | .jmpCallKSelOther _ => []
  | .jmpCallXSelOther _ => []
  | .jmp32CallKSelOther _ => []
  | .jmp32CallXSelOther _ => []
  | .ldImmSelOther _ _ _ _ => []
  | .ldMemAny _ => []
  | .notldxMemsxAny _ _ => []
  | .anyAtomicH _ => []
  | .anyAtomicB _ => []
  | .stxAtomicWOpOther _ => []
  | .stxAtomicDwOpOther _ => []
  | .notstxAtomicAny _ _ => []
  | .anyMode5 _ _ => []
  | .anyMode7 _ _ => []

/-- Every register the instruction indexes exists: the guard of R205 does not hold. -/
def Instr.registersExist (i : Instr) : Bool := i.registers.all (fun r => decide (r.toNat < Config.numRegs))

/-- Whether the stepper interprets the instruction (R101, R206): it indexes a register. -/
def Instr.interpreted (i : Instr) : Bool := !i.registers.isEmpty

/-- Every head slot's instruction passes the register check, from slot `i` on (R208: "no `InvalidRegister`"). -/
def Machine.Memory.registersExist (m : Memory) : Prop :=
  ∀ i head ins, m[i]? = some head → instrAt m i head = .ok ins → ins.decoded.registersExist = true

/-! ## The answers that statements name -/

/-- The answer of a completed step that writes `v` to register `dst` and takes one slot (R101, R204). -/
def Machine.State.wrote (s : State) (dst : RegField) (v : Word) : Result :=
  .next { s with x := s.x.setIfInBounds dst.toNat v, pc := s.pc + 1, state := .running, result := .ok }

/-- The answer of a completed step over an instruction of `n` slots that writes no register (R206, R207). -/
def Machine.State.skipped (s : State) (n : BitVec Config.pcWidth) : Result :=
  .next { s with pc := s.pc + n, state := .running, result := .ok }

/-- What is left of an ASCII input when white space is stripped and its upper-case letters are made lower case (R42, decision
D31; which characters are white space is log entry 9). -/
def Machine.asciiDigits (text : String) : List Char :=
  (text.toList.filter (fun c => !c.isWhitespace)).map Char.toLower

/-- The line of slot `i` in a listing of `m`: none for an extension slot or where `Render` gives no text (R93, R94). -/
def Machine.lineAt (cfg : LineConfig) (m : Memory) (i : Nat) : Option String :=
  match m[i]? with
  | none => none
  | some head =>
    match instrAt m i head with
    | .error _ => none
    | .ok ins =>
      match renderLine i ins (indexWidth (Memory.slotCount m)) cfg with
      | .ok line => some line
      | .condition _ => none
      | .notAnInstruction => none

end Sys2Proof
end

