-- ==== Sys2Proof/Certificates/Slice0/Obligations.lean ====
section
/-! DEFINITION. The statements for the provers. Each cites the rule of spec/ it comes from; where a clause rests on a
decision of the spec (92_eei_decisions.md) or on a choice of the model (notes/assumptions), the docstring says so. -/

open Sys2Proof Sys2Proof.Machine

/-! ## Fields, classification, decoding -/

/-- `Opcode(W)` is the most significant byte; the register byte's high nibble is `src`, its low nibble `dst` (R51, R52). -/
def Obligations.OpcodeByteAndRegisterNibbles : Prop :=
  ∀ w : Word,
    (opcodeOf w).toNat = w.toNat / 2 ^ 56 ∧
    (srcOf w).toNat = w.toNat / 2 ^ 52 % 16 ∧
    (dstOf w).toNat = w.toNat / 2 ^ 48 % 16 ∧
    w.toNat / 2 ^ 48 % 256 = 16 * (srcOf w).toNat + (dstOf w).toNat

/-- `Offset(w)` is reassembled with its first stream byte least significant, by OR or by XOR alike, and read as signed
16-bit (R53). -/
def Obligations.OffsetIsLittleEndianAndSigned : Prop :=
  ∀ w : Word,
    offOf w = (w.extractLsb' 40 8).setWidth 16 ||| ((w.extractLsb' 32 8).setWidth 16 <<< 8) ∧
    offOf w = (w.extractLsb' 40 8).setWidth 16 ^^^ ((w.extractLsb' 32 8).setWidth 16 <<< 8) ∧
    (offOf w).toInt = (if (offOf w).toNat < 2 ^ 15 then ((offOf w).toNat : Int) else (offOf w).toNat - 2 ^ 16) ∧
    -32768 ≤ (offOf w).toInt ∧ (offOf w).toInt ≤ 32767

/-- `Imm(w)` is reassembled from its four bytes, the first least significant, and read as signed 32-bit (R54). -/
def Obligations.ImmIsLittleEndianAndSigned : Prop :=
  ∀ w : Word,
    immOf w = (w.extractLsb' 24 8).setWidth 32 ||| ((w.extractLsb' 16 8).setWidth 32 <<< 8) |||
      ((w.extractLsb' 8 8).setWidth 32 <<< 16) ||| ((w.extractLsb' 0 8).setWidth 32 <<< 24) ∧
    (immOf w).toInt = (if (immOf w).toNat < 2 ^ 31 then ((immOf w).toNat : Int) else (immOf w).toNat - 2 ^ 32) ∧
    -2147483648 ≤ (immOf w).toInt ∧ (immOf w).toInt ≤ 2147483647

/-- `Imm64` is NextImm, sign-extended and shifted by 32, or'ed with Imm as an unsigned number: the low half does not
sign-extend (R59). -/
def Obligations.ImmediateLowHalfDoesNotSignExtend : Prop :=
  ∀ basic ext : Word,
    imm64Of basic ext = ((immOf ext).signExtend 64 <<< 32) ||| (immOf basic).setWidth 64 ∧
    (imm64Of basic ext).toInt = (immOf ext).toInt * 2 ^ 32 + (immOf basic).toNat

/-- The class is the low three bits of the opcode and nothing else, and every class occurs (R60); Source is opcode bit 3,
clear for K and set for X (R65). -/
def Obligations.ClassIsTheLowThreeBitsAndSourceIsBitThree : Prop :=
  (∀ op op' : Opcode, opClass op = opClass op' ↔ op.extractLsb' 0 3 = op'.extractLsb' 0 3) ∧
  (∀ c : OpClass, ∃ op : Opcode, opClass op = c) ∧
  (∀ op : Opcode, (opSource op = .k ↔ op &&& 0x08 = 0) ∧ (opSource op = .x ↔ op &&& 0x08 = 8))

/-- An opcode is extended exactly when it is a load/store opcode with mode bits 0, that is `opcode & 0xe4 = 0`, whatever its
class and size (R70; that class and size are not looked at is the spec's decision D17); the load/store type is opcode
bit 2 clear (R62). -/
def Obligations.ExtendedOpcodesAreLoadStoreModeImm : Prop :=
  ∀ op : Opcode,
    (opExtended op = true ↔ op.getLsbD 2 = false ∧ op.extractLsb' 5 3 = 0) ∧
    (opExtended op = true ↔ op &&& 0xe4 = 0) ∧
    (opType (opClass op) = .loadAndStore ↔ op.getLsbD 2 = false)

/-- Decoding the bytes of an encoded well-formed instruction gives the instruction back and leaves the bytes after it, for
every instruction and every value of its operands (R50, R71). -/
def Obligations.DecodeOfEncodeIsTheInstruction : Prop :=
  ∀ (i : Instr) (rest : List Byte), i.wellFormed = true → decode (encodeBytes i ++ rest) = .ok (i, rest)

/-- Encoding what a word decodes to gives the word back with exactly the bits cleared that its table row does not read, and
of the extension word the low 32 bits (R57, R58, R75; the extension word's other bits are the spec's decision D19). No rule
gives an encoder: that it writes 0 in every unread field is the model's choice, log entry 7. -/
def Obligations.EncodeOfDecodeKeepsTheReadBits : Prop :=
  ∀ (w e : Word) (r : Row), rowOf w = some r →
    encode (decodeWords w e) = (w &&& r.reads) :: (if r.extended then [e &&& 0x00000000ffffffff] else [])

/-- Every word, with any word after it, decodes to a well-formed instruction: field extraction and classification are total
(R55, R74). -/
def Obligations.EveryWordDecodesToAWellFormedInstruction : Prop :=
  ∀ w e : Word, (decodeWords w e).wellFormed = true

/-- Some row of the opcode table matches every word, and the FIRST that does names the instruction the decoder reads by
classification, its length and whether the stepper interprets it (R75; D2 to D7 give the numbers). -/
def Obligations.FirstMatchingRowNamesTheDecodedInstruction : Prop :=
  ∀ w e : Word, ∃ r, rowOf w = some r ∧ r.mnemonic = (decodeWords w e).mnemonic ∧ r.extended = isExtended w ∧
    r.executes = (decodeWords w e).interpreted

/-- What `Render` gives by classification is what the first matching row of the opcode table gives: the same text, or the
same condition with the same reason, on every Instruction (R75, R87). -/
def Obligations.RenderIsTheFirstMatchingRow : Prop :=
  ∀ (ins : Instruction) (r : Row), ins.wf = true → rowOf ins.basic = some r →
    render ins = r.render ins.basic (ins.extension.getD 0)

/-- Two rows before the thirty catch-alls match no common word, but for a DIV or MOD row of `src` = 0 and the general row
right after it (R75). -/
def Obligations.RenderedAndUnsupportedRowsAreDisjoint : Prop :=
  opcodeTable.length = 233 ∧
  ∀ i ∈ List.range 203, ∀ j ∈ List.range 203, i < j →
    ∀ r ∈ opcodeTable[i]?, ∀ q ∈ opcodeTable[j]?,
      (r.pattern &&& q.mask ≠ q.pattern &&& r.mask) ∨ (j = i + 1 ∧ r.mnemonic = q.mnemonic ++ "_SRC0")

/-- Bits that the matching row does not read change neither the decoded instruction nor its text; nor do the upper 32 bits
of the extension word (R57, R58; decision D19). -/
def Obligations.UnreadBitsChangeNothing : Prop :=
  ∀ (i j : Instruction) (r : Row), i.wf = true → j.wf = true → rowOf i.basic = some r →
    i.basic &&& r.reads = j.basic &&& r.reads →
    i.extension.map (fun e => e &&& 0x00000000ffffffff) = j.extension.map (fun e => e &&& 0x00000000ffffffff) →
      i.decoded = j.decoded ∧ render i = render j

/-- The five worked words of the source decode to the instructions it names (95_test_vectors.md section 1). -/
def Obligations.SourceVectorsDecode : Prop :=
  decodeWords 0x0701000044332211 0 = .alu64AddK 1 0x11223344 ∧
  decodeWords 0xb701000000000000 0 = .alu64MovK 1 0 ∧
  decodeWords 0x631afcff00000000 0 = .stxMemW 10 1 0xfffc ∧
  decodeWords 0x850000000e000000 0 = .jmpCallKSel0 14 ∧
  decodeWords 0x1801000000000000 0 = .ldImmLiteral64 .ld .dw 1 0 0

/-- When `pc` is at a head slot and the store's bytes from there on decode to an instruction, a step at that state is `exec`
of that instruction at that state: the step adds nothing around it (R204; `exec` itself advances `pc`). -/
def Obligations.StepRunsTheDecodedInstruction : Prop :=
  ∀ (s : State) (head : Slot) (i : Instr) (rest : List Byte),
    s.prog[s.pc.toNat]? = some head → head.isExtSlot = false →
    decode (Memory.bytes (s.prog.drop s.pc.toNat)) = .ok (i, rest) →
      i.wellFormed = true ∧ step s = exec i s

/-! ## Loading a program -/

/-- `Pair` succeeds with a store exactly when the store has the words of the stream, a slot is tagged exactly when the slot
before it is an untagged extended one, and no untagged extended slot stands last (R36, R18). -/
def Obligations.PairTagsExactlyTheExtensionSlots : Prop :=
  ∀ (ws : List Word) (m : Memory),
    pair ws = .ok m ↔
      Memory.words m = ws ∧
      (∀ i slot, m[i]? = some slot →
        (slot.isExtSlot = true ↔
          ∃ j before, i = j + 1 ∧ m[j]? = some before ∧ before.isExtSlot = false ∧ isExtended before.word = true)) ∧
      (∀ last, m.getLast? = some last → last.isExtSlot = false → isExtended last.word = false)

/-- `Pair` fails exactly when the words before the last pair and the last is an extended head; the condition is
`MissingExtensionWord` with that head's index (R37). -/
def Obligations.PairFailsExactlyAtALastExtendedHead : Prop :=
  ∀ (ws : List Word) (c : Condition),
    pair ws = .error c ↔
      ∃ front last m, ws = front ++ [last] ∧ pair front = .ok m ∧ isExtended last = true ∧
        c = .missingExtensionWord front.length

/-- A byte stream whose length is not a multiple of 8 raises `MalformedEncoding` and gives no word (R41); any other gives one
word for each eight bytes, stream byte `8i + j` being stream byte `j` of word `i`, the most significant first (R33). -/
def Obligations.ByteStreamIsBigEndianWords : Prop :=
  (∀ bs : List Byte, bs.length % 8 ≠ 0 → ∃ info, wordsOfBytes bs = .error (.malformedEncoding info)) ∧
  (∀ bs : List Byte, bs.length % 8 = 0 → ∃ ws, wordsOfBytes bs = .ok ws ∧ 8 * ws.length = bs.length ∧
    ∀ i j w, j < 8 → ws[i]? = some w → bs[8 * i + j]? = some (w.extractLsb' (8 * (7 - j)) 8))

/-- A text that, white space stripped, is the sixteen digits of each word of a sequence, in either case of digits, loads as that
sequence pairs (R42, R83, R36; that both cases are accepted is the spec's decision D31). A text whose stripped length is not a
multiple of 16 raises `MalformedEncoding` with that length (R42; what it carries is decision D22). The first chunk that is not
sixteen hexadecimal digits raises `MissingExtensionWord` when the head before it needs it, else `MalformedEncoding` with the
chunk's index (R43; decision D31). Which characters are white space, and the order of the conditions, are the model's choice,
log entry 9. -/
def Obligations.AsciiInputLoadsTheWordsItSpells : Prop :=
  (∀ (ws : List Word) (text : String), asciiDigits text = ws.flatMap (fun w => (hex16 w).toList) →
    loadAscii text = pair ws) ∧
  (∀ text : String, (asciiDigits text).length % 16 ≠ 0 →
    loadAscii text = .error (.malformedEncoding (.length (asciiDigits text).length))) ∧
  (∀ (ws : List Word) (chunk rest : List Char) (text : String),
    asciiDigits text = ws.flatMap (fun w => (hex16 w).toList) ++ chunk ++ rest →
    chunk.length = 16 → rest.length % 16 = 0 → (∃ c ∈ chunk, c ∉ "0123456789abcdef".toList) →
      (∀ m, pair ws = .ok m → loadAscii text = .error (.malformedEncoding (.chunk ws.length))) ∧
      (∀ c, pair ws = .error c → loadAscii text = .error c))

/-! ## The stepper's operations -/

/-- `Reset` answers OK in every state and leaves the state after reset: every register 0, `pc` 0, Ready, no slot (R22, R260;
Ready with the empty program is the spec's decision D28). -/
def Obligations.ResetZeroesTheStepper : Prop :=
  ∀ s : State, ∃ t, operate .reset s = .next (t, .condition .ok) ∧ t = core.reset ∧
    (∀ r : RegField, r.toNat ≤ 10 → t.reg? r = some 0) ∧ t.pc = 0 ∧ t.state = .ready ∧ Memory.slotCount t.prog = 0

/-- `LoadProgram` answers OK in every state, attaches the program, sets `pc` to 0 and the state to Ready, and leaves every
register (R202; that the registers stay is the spec's decision D28). -/
def Obligations.LoadProgramKeepsTheRegisters : Prop :=
  ∀ (s : State) (p : Memory), ∃ t, operate (.loadProgram p) s = .next (t, .condition .ok) ∧
    t.prog = p ∧ t.pc = 0 ∧ t.state = .ready ∧ ∀ r, t.reg? r = s.reg? r

/-- `NextInstruction` answers `EndOfProgram` at or past the end, else the Instruction of slot `pc`, and writes nothing: the
state after it is the state before it (R203). The invariant rules out stores that `Pair` never makes. -/
def Obligations.NextInstructionPeeks : Prop :=
  ∀ s : State, s.Inv →
    (Memory.slotCount s.prog ≤ s.pc.toNat → operate .nextInstruction s = .next (s, .condition .endOfProgram)) ∧
    (∀ head, s.prog[s.pc.toNat]? = some head → ∃ ins, operate .nextInstruction s = .next (s, .instruction ins) ∧
      ins.basic = head.word ∧ ins.isExtended = isExtended head.word ∧
      ins.extension = (if isExtended head.word then (s.prog[s.pc.toNat + 1]?).map Slot.word else none))

/-- A step at or past the end of the program enters Halted, hands back `EndOfProgram` and leaves `pc`, the registers and the
program (R204, R241). `result` is the model's own field for the value handed back (log entry 1). -/
def Obligations.StepAtTheEndHalts : Prop :=
  ∀ s : State, Memory.slotCount s.prog ≤ s.pc.toNat →
    step s = .next { s with state := .halted, result := .endOfProgram }

/-- `EndOfProgram` is raised by `NextInstruction` and by `ExecuteStep` exactly when `pc >= L` (R233). -/
def Obligations.EndOfProgramExactlyAtTheEnd : Prop :=
  ∀ s : State,
    (s.nextInstruction = .ok (.condition .endOfProgram) ↔ Memory.slotCount s.prog ≤ s.pc.toNat) ∧
    ((∃ t, step s = .next t ∧ t.result = .endOfProgram) ↔ Memory.slotCount s.prog ≤ s.pc.toNat)

/-- From a Halted state any number of steps hands back `EndOfProgram` each time and changes nothing else, and
`NextInstruction` answers `EndOfProgram`; `LoadProgram` and `Reset` leave Halted (R210). -/
def Obligations.HaltedIsAbsorbing : Prop :=
  ∀ s : State, s.Inv → s.state = .halted →
    (∀ k, core.run (k + 1) s = .next { s with result := .endOfProgram }) ∧
    s.nextInstruction = .ok (.condition .endOfProgram) ∧
    (∀ p, (s.loadProgram p).state = .ready) ∧ s.doReset.state = .ready

/-- A completed step moves `pc` by 1, or by 2 when the word at `pc` is extended, whatever the instruction; a step that does
not complete, and `NextInstruction`, leave `pc`; nothing else writes it but `LoadProgram` and `Reset`, to 0 (R207, R203, R202).
That a step on a missing register does not complete is the spec's decision D8 (R205), that a completed one enters Running its
decision D27 (R201, R204), and that `Reset` sets 0 its decision D28 (R260). `result` is the model's own field (log entry 1). -/
def Obligations.PcAdvancesPastTheInstruction : Prop :=
  ∀ s : State,
    (∀ head t, s.prog[s.pc.toNat]? = some head → step s = .next t →
      (t.result = .ok ∧ t.state = .running ∧ t.pc = s.pc + (if isExtended head.word then 2 else 1)) ∨
      (t.result = .invalidRegister ∧ t.pc = s.pc)) ∧
    (∀ t, s.prog[s.pc.toNat]? = none → step s = .next t → t.pc = s.pc) ∧
    (∀ t r, operate .nextInstruction s = .next (t, r) → t.pc = s.pc) ∧
    (∀ t r p, operate (.loadProgram p) s = .next (t, r) → t.pc = 0) ∧
    (∀ t r, operate .reset s = .next (t, r) → t.pc = 0)

/-- With a program that `Pair` made, `pc` counts slots without wrapping: a completed step adds 1, or 2 over an extended
instruction, to it as a number, no step takes it past `L`, and only `LoadProgram` and `Reset` set it otherwise (R14). -/
def Obligations.PcNeverWraps : Prop :=
  ∀ s t : State, s.Inv →
    (step s = .next t → t.pc.toNat ≤ Memory.slotCount s.prog ∧
      ((t.result ≠ .ok ∧ t.pc = s.pc) ∨
        (t.result = .ok ∧ ∃ head, s.prog[s.pc.toNat]? = some head ∧ s.pc.toNat + 2 < 2 ^ 32 ∧
          t.pc.toNat = s.pc.toNat + (if isExtended head.word then 2 else 1)))) ∧
    (∀ r, operate .nextInstruction s = .next (t, r) → t.pc = s.pc) ∧
    (∀ r p, operate (.loadProgram p) s = .next (t, r) → t.pc = 0) ∧
    (∀ r, operate .reset s = .next (t, r) → t.pc = 0)

/-- An instruction is answered with `InvalidRegister`, nothing changed, exactly when it is interpreted and a register it
indexes has a number above 10; the same instruction met again is answered the same (R205; rejection is the spec's decision
D8). -/
def Obligations.InvalidRegisterExactlyWhenARegisterIsMissing : Prop :=
  ∀ (i : Instr) (s : State),
    ((∃ r ∈ i.registers, 10 < r.toNat) ↔ exec i s = .next { s with result := .invalidRegister }) ∧
    ((∃ r ∈ i.registers, 10 < r.toNat) →
      exec i { s with result := .invalidRegister } = .next { s with result := .invalidRegister })

/-! ## The no-operation set, every instruction of it -/

/-- DIV, NEG, MOD, ARSH, END and the undefined codes, both classes, K and X: the step reads and writes no register and
advances `pc` by 1 (R101, R105, R110, R111, R114 to R116, R206; the source lists nine codes and decision D26 takes the list
as complete). -/
def Obligations.UninterpretedArithmeticIsSteppedOver : Prop :=
  ∀ (s : State) (dst : RegField) (src : RegField) (imm : ImmField),
    ∀ i ∈ ([
      .aluDivKSrc0 dst, .aluDivK dst src imm, .aluDivXSrc0 dst, .aluDivX dst src, .alu64DivKSrc0 dst, .alu64DivK dst src imm,
       .alu64DivXSrc0 dst, .alu64DivX dst src, .aluNegK dst src, .aluNegX dst src, .alu64NegK dst src, .alu64NegX dst src,
       .aluModKSrc0 dst, .aluModK dst src imm, .aluModXSrc0 dst, .aluModX dst src, .alu64ModKSrc0 dst, .alu64ModK dst src imm,
       .alu64ModXSrc0 dst, .alu64ModX dst src, .aluArshK dst imm, .aluArshX dst src, .alu64ArshK dst imm, .alu64ArshX dst src,
       .aluEndK, .aluEndX, .alu64EndK, .alu64EndX, .aluCodeEK, .aluCodeEX, .alu64CodeEK, .alu64CodeEX, .aluCodeFK, .aluCodeFX,
       .alu64CodeFK, .alu64CodeFX] : List Instr),
      exec i s = s.skipped 1

/-- JA, the eleven conditional jumps, CALL of every selector, EXIT and the undefined codes, both classes, K and X: no jump is
taken, nothing is called, EXIT does not halt; `pc` advances by 1 (R131 to R146). -/
def Obligations.JumpsCallsAndExitAreSteppedOver : Prop :=
  ∀ (s : State) (dst : RegField) (src : RegField) (off : OffField) (imm : ImmField),
    ∀ i ∈ ([
      .jmpJaK off, .jmpJaX off, .jmp32JaK off, .jmp32JaX off, .jmpJeqK dst off imm, .jmpJeqX dst src off,
       .jmp32JeqK dst off imm, .jmp32JeqX dst src off, .jmpJgtK dst off imm, .jmpJgtX dst src off, .jmp32JgtK dst off imm,
       .jmp32JgtX dst src off, .jmpJgeK dst off imm, .jmpJgeX dst src off, .jmp32JgeK dst off imm, .jmp32JgeX dst src off,
       .jmpJsetK dst off imm, .jmpJsetX dst src off, .jmp32JsetK dst off imm, .jmp32JsetX dst src off, .jmpJneK dst off imm,
       .jmpJneX dst src off, .jmp32JneK dst off imm, .jmp32JneX dst src off, .jmpJsgtK dst off imm, .jmpJsgtX dst src off,
       .jmp32JsgtK dst off imm, .jmp32JsgtX dst src off, .jmpJsgeK dst off imm, .jmpJsgeX dst src off, .jmp32JsgeK dst off imm,
       .jmp32JsgeX dst src off, .jmpCallKSel0 imm, .jmpCallKSel1 off, .jmpCallKSel2 imm, .jmpCallXSel0 imm, .jmpCallXSel1 off,
       .jmpCallXSel2 imm, .jmp32CallKSel0 imm, .jmp32CallKSel1 off, .jmp32CallKSel2 imm, .jmp32CallXSel0 imm,
       .jmp32CallXSel1 off, .jmp32CallXSel2 imm, .jmpExitK, .jmpExitX, .jmp32ExitK, .jmp32ExitX, .jmpJltK dst off imm,
       .jmpJltX dst src off, .jmp32JltK dst off imm, .jmp32JltX dst src off, .jmpJleK dst off imm, .jmpJleX dst src off,
       .jmp32JleK dst off imm, .jmp32JleX dst src off, .jmpJsltK dst off imm, .jmpJsltX dst src off, .jmp32JsltK dst off imm,
       .jmp32JsltX dst src off, .jmpJsleK dst off imm, .jmpJsleX dst src off, .jmp32JsleK dst off imm, .jmp32JsleX dst src off,
       .jmpCodeEK, .jmpCodeEX, .jmp32CodeEK, .jmp32CodeEX, .jmpCodeFK, .jmpCodeFX, .jmp32CodeFK, .jmp32CodeFX,
       .jmpCallKSelOther src, .jmpCallXSelOther src, .jmp32CallKSelOther src, .jmp32CallXSelOther src] : List Instr),
      exec i s = s.skipped 1

/-- ABS, IND, MEM, MEMSX and ATOMIC in every class and size, the unsupported and the invalid ones too, and the undefined
modes: no register and no memory is touched and `pc` advances by 1 (R169 to R187). -/
def Obligations.LoadsStoresAndAtomicsAreSteppedOver : Prop :=
  ∀ (s : State) (dst : RegField) (src : RegField) (off : OffField) (imm : ImmField) (cls : LSClass) (size : Size) (fetch : Bool),
    ∀ i ∈ ([
      .ldAbsW, .ldxAbsW, .stAbsW, .stxAbsW, .ldAbsH, .ldxAbsH, .stAbsH, .stxAbsH, .ldAbsB, .ldxAbsB, .stAbsB, .stxAbsB,
       .ldAbsDw, .ldxAbsDw, .stAbsDw, .stxAbsDw, .ldIndW, .ldxIndW, .stIndW, .stxIndW, .ldIndH, .ldxIndH, .stIndH, .stxIndH,
       .ldIndB, .ldxIndB, .stIndB, .stxIndB, .ldIndDw, .ldxIndDw, .stIndDw, .stxIndDw, .ldxMemW dst src off,
       .stMemW dst off imm, .stxMemW dst src off, .ldxMemH dst src off, .stMemH dst off imm, .stxMemH dst src off,
       .ldxMemB dst src off, .stMemB dst off imm, .stxMemB dst src off, .ldxMemDw dst src off, .stMemDw dst off imm,
       .stxMemDw dst src off, .ldxMemsxW dst src off, .ldxMemsxH dst src off, .ldxMemsxB dst src off, .ldxMemsxDw dst src off,
       .stxAtomicWAdd dst src off, .stxAtomicWOr dst src off, .stxAtomicWAnd dst src off, .stxAtomicWXor dst src off,
       .stxAtomicWFetchAdd, .stxAtomicWFetchOr, .stxAtomicWFetchAnd, .stxAtomicWFetchXor, .stxAtomicWXchg fetch,
       .stxAtomicWCmpxchg fetch, .stxAtomicDwAdd dst src off, .stxAtomicDwOr dst src off, .stxAtomicDwAnd dst src off,
       .stxAtomicDwXor dst src off, .stxAtomicDwFetchAdd, .stxAtomicDwFetchOr, .stxAtomicDwFetchAnd, .stxAtomicDwFetchXor,
       .stxAtomicDwXchg fetch, .stxAtomicDwCmpxchg fetch, .ldMemAny size, .notldxMemsxAny cls size, .anyAtomicH cls,
       .anyAtomicB cls, .stxAtomicWOpOther imm, .stxAtomicDwOpOther imm, .notstxAtomicAny cls size, .anyMode5 cls size,
       .anyMode7 cls size] : List Instr),
      exec i s = s.skipped 1

/-- The 64-bit immediate loads, of every selector, class and size: `x[dst]` is not written, and `pc` advances by 2, over the
extension slot (R161 to R168, R187). -/
def Obligations.ImmediateLoadsAreSteppedOverByTwoSlots : Prop :=
  ∀ (s : State) (dst : RegField) (src : RegField) (imm : ImmField) (nextImm : ImmField) (cls : LSClass) (size : Size),
    ∀ i ∈ ([
      .ldImmLiteral64 cls size dst imm nextImm, .ldImmMapByFd cls size dst imm nextImm,
       .ldImmMapValByFd cls size dst imm nextImm, .ldImmVarAddr cls size dst imm nextImm,
       .ldImmCodeAddr cls size dst imm nextImm, .ldImmMapByIdx cls size dst imm nextImm,
       .ldImmMapValByIdx cls size dst imm nextImm, .ldImmSelOther cls size src nextImm] : List Instr),
      exec i s = s.skipped 2

/-! ## The nine interpreted operations -/

/-- ADD: `(a + b) mod 2^W`; in class ALU the low 32 bits are added and the result is zero-extended, in class ALU64 the
immediate enters sign-extended; no other register changes (R101, R102; widths are the spec's decision D25). -/
def Obligations.AddWritesTheSum : Prop :=
  ∀ (s : State) (dst : RegField) (a : Word), s.reg? dst = some a →
    (∀ imm, exec (.aluAddK dst imm) s = s.wrote dst (BitVec.ofNat 64 ((a.toNat + imm.toNat) % 2 ^ 32)) ∧
      exec (.alu64AddK dst imm) s = s.wrote dst (BitVec.ofInt 64 (a.toInt + imm.toInt))) ∧
    (∀ src b, s.reg? src = some b →
      exec (.aluAddX dst src) s = s.wrote dst (BitVec.ofNat 64 ((a.toNat + b.toNat) % 2 ^ 32)) ∧
      exec (.alu64AddX dst src) s = s.wrote dst (BitVec.ofNat 64 (a.toNat + b.toNat)))

/-- SUB: `(a - b) mod 2^W`, widths as for ADD (R101, R103; decision D25). -/
def Obligations.SubWritesTheDifference : Prop :=
  ∀ (s : State) (dst : RegField) (a : Word), s.reg? dst = some a →
    (∀ imm, exec (.aluSubK dst imm) s = s.wrote dst (BitVec.ofInt 64 (((a.toNat : Int) - imm.toNat) % 2 ^ 32)) ∧
      exec (.alu64SubK dst imm) s = s.wrote dst (BitVec.ofInt 64 (a.toInt - imm.toInt))) ∧
    (∀ src b, s.reg? src = some b →
      exec (.aluSubX dst src) s = s.wrote dst (BitVec.ofInt 64 (((a.toNat : Int) - b.toNat) % 2 ^ 32)) ∧
      exec (.alu64SubX dst src) s = s.wrote dst (BitVec.ofInt 64 ((a.toNat : Int) - b.toNat)))

/-- MUL: the low W bits of the product, widths as for ADD (R101, R104; decision D25). -/
def Obligations.MulWritesTheLowProduct : Prop :=
  ∀ (s : State) (dst : RegField) (a : Word), s.reg? dst = some a →
    (∀ imm, exec (.aluMulK dst imm) s = s.wrote dst (BitVec.ofNat 64 (a.toNat * imm.toNat % 2 ^ 32)) ∧
      exec (.alu64MulK dst imm) s = s.wrote dst (BitVec.ofInt 64 (a.toInt * imm.toInt))) ∧
    (∀ src b, s.reg? src = some b →
      exec (.aluMulX dst src) s = s.wrote dst (BitVec.ofNat 64 (a.toNat * b.toNat % 2 ^ 32)) ∧
      exec (.alu64MulX dst src) s = s.wrote dst (BitVec.ofNat 64 (a.toNat * b.toNat)))

/-- OR: bit by bit; in class ALU bits 63 to 32 of the result are 0, in class ALU64 a negative immediate sets them (R101,
R106; decision D25). -/
def Obligations.OrWritesTheUnion : Prop :=
  ∀ (s : State) (dst : RegField) (a : Word), s.reg? dst = some a →
    (∀ imm, exec (.aluOrK dst imm) s = s.wrote dst (BitVec.ofNat 64 ((a.toNat ||| imm.toNat) % 2 ^ 32)) ∧
      exec (.alu64OrK dst imm) s = s.wrote dst (a ||| BitVec.ofInt 64 imm.toInt)) ∧
    (∀ src b, s.reg? src = some b →
      exec (.aluOrX dst src) s = s.wrote dst (BitVec.ofNat 64 ((a.toNat ||| b.toNat) % 2 ^ 32)) ∧
      exec (.alu64OrX dst src) s = s.wrote dst (a ||| b))

/-- AND: bit by bit; in class ALU bits 63 to 32 of the result are 0 (R101, R107; decision D25). -/
def Obligations.AndWritesTheIntersection : Prop :=
  ∀ (s : State) (dst : RegField) (a : Word), s.reg? dst = some a →
    (∀ imm, exec (.aluAndK dst imm) s = s.wrote dst (BitVec.ofNat 64 ((a.toNat &&& imm.toNat) % 2 ^ 32)) ∧
      exec (.alu64AndK dst imm) s = s.wrote dst (a &&& BitVec.ofInt 64 imm.toInt)) ∧
    (∀ src b, s.reg? src = some b →
      exec (.aluAndX dst src) s = s.wrote dst (BitVec.ofNat 64 ((a.toNat &&& b.toNat) % 2 ^ 32)) ∧
      exec (.alu64AndX dst src) s = s.wrote dst (a &&& b))

/-- LSH: the amount is the operand modulo the width, so a shift by the width is a shift by 0; bits shifted out are lost
(R101, R108, R117; decision D25). -/
def Obligations.LshMasksTheAmount : Prop :=
  ∀ (s : State) (dst : RegField) (a : Word), s.reg? dst = some a →
    (∀ imm, exec (.aluLshK dst imm) s = s.wrote dst (BitVec.ofNat 64 (a.toNat * 2 ^ (imm.toNat % 32) % 2 ^ 32)) ∧
      exec (.alu64LshK dst imm) s = s.wrote dst (BitVec.ofNat 64 (a.toNat * 2 ^ (imm.toNat % 64)))) ∧
    (∀ src b, s.reg? src = some b →
      exec (.aluLshX dst src) s = s.wrote dst (BitVec.ofNat 64 (a.toNat * 2 ^ (b.toNat % 32) % 2 ^ 32)) ∧
      exec (.alu64LshX dst src) s = s.wrote dst (BitVec.ofNat 64 (a.toNat * 2 ^ (b.toNat % 64))))

/-- RSH: logical, zeros enter; the amount is the operand modulo the width; in class ALU the low 32 bits alone are shifted
(R101, R109, R117; decision D25). -/
def Obligations.RshIsLogicalAndMasksTheAmount : Prop :=
  ∀ (s : State) (dst : RegField) (a : Word), s.reg? dst = some a →
    (∀ imm, exec (.aluRshK dst imm) s = s.wrote dst (BitVec.ofNat 64 (a.toNat % 2 ^ 32 / 2 ^ (imm.toNat % 32))) ∧
      exec (.alu64RshK dst imm) s = s.wrote dst (BitVec.ofNat 64 (a.toNat / 2 ^ (imm.toNat % 64)))) ∧
    (∀ src b, s.reg? src = some b →
      exec (.aluRshX dst src) s = s.wrote dst (BitVec.ofNat 64 (a.toNat % 2 ^ 32 / 2 ^ (b.toNat % 32))) ∧
      exec (.alu64RshX dst src) s = s.wrote dst (BitVec.ofNat 64 (a.toNat / 2 ^ (b.toNat % 64))))

/-- XOR: bit by bit; immediate -1 complements 64 bits in class ALU64, the low 32 in class ALU, whose upper half becomes 0
(R101, R112; decision D25). -/
def Obligations.XorWritesTheDifferenceOfBits : Prop :=
  ∀ (s : State) (dst : RegField) (a : Word), s.reg? dst = some a →
    (∀ imm, exec (.aluXorK dst imm) s = s.wrote dst (BitVec.ofNat 64 ((a.toNat ^^^ imm.toNat) % 2 ^ 32)) ∧
      exec (.alu64XorK dst imm) s = s.wrote dst (a ^^^ BitVec.ofInt 64 imm.toInt)) ∧
    (∀ src b, s.reg? src = some b →
      exec (.aluXorX dst src) s = s.wrote dst (BitVec.ofNat 64 ((a.toNat ^^^ b.toNat) % 2 ^ 32)) ∧
      exec (.alu64XorX dst src) s = s.wrote dst (a ^^^ b))

/-- MOV: the operand, whatever the destination held: the immediate zero-extended in class ALU and sign-extended in class
ALU64, the register's low 32 bits or the whole of it (R101, R113; decision D25). -/
def Obligations.MovWritesTheOperand : Prop :=
  ∀ (s : State) (dst : RegField), dst.toNat ≤ 10 →
    (∀ imm, exec (.aluMovK dst imm) s = s.wrote dst (BitVec.ofNat 64 imm.toNat) ∧
      exec (.alu64MovK dst imm) s = s.wrote dst (BitVec.ofInt 64 imm.toInt)) ∧
    (∀ src b, s.reg? src = some b →
      exec (.aluMovX dst src) s = s.wrote dst (BitVec.ofNat 64 (b.toNat % 2 ^ 32)) ∧
      exec (.alu64MovX dst src) s = s.wrote dst b)

/-- With source and destination the same register, ADD doubles, SUB and XOR give 0, MUL squares and MOV changes nothing, in class
ALU64 on the whole register and in class ALU on its low 32 bits with the upper half cleared (R118, R101; that class ALU takes the
low 32 bits and zero-extends its result is the spec's decision D25). -/
def Obligations.SameRegisterReadsBeforeItWrites : Prop :=
  ∀ (s : State) (r : RegField) (a : Word), s.reg? r = some a →
    exec (.alu64AddX r r) s = s.wrote r (2 * a) ∧ exec (.alu64SubX r r) s = s.wrote r 0 ∧
    exec (.alu64XorX r r) s = s.wrote r 0 ∧ exec (.alu64MulX r r) s = s.wrote r (a ^ 2) ∧
    exec (.alu64MovX r r) s = .next { s with pc := s.pc + 1, state := .running, result := .ok } ∧
    exec (.aluAddX r r) s = s.wrote r (BitVec.ofNat 64 (2 * a.toNat % 2 ^ 32)) ∧
    exec (.aluMulX r r) s = s.wrote r (BitVec.ofNat 64 (a.toNat ^ 2 % 2 ^ 32)) ∧
    exec (.aluSubX r r) s = s.wrote r 0 ∧ exec (.aluXorX r r) s = s.wrote r 0 ∧
    exec (.aluMovX r r) s = s.wrote r (a &&& 0x00000000ffffffff)

/-- An interpreted instruction of class ALU that completes leaves bits 63 to 32 of its destination 0, whatever they were
(R101, glossary ALU; decision D25). -/
def Obligations.ThirtyTwoBitResultsAreZeroExtended : Prop :=
  ∀ (s t : State) (dst src : RegField) (imm : ImmField),
    ∀ i ∈ ([.aluAddK dst imm, .aluAddX dst src, .aluSubK dst imm, .aluSubX dst src, .aluMulK dst imm, .aluMulX dst src,
        .aluOrK dst imm, .aluOrX dst src, .aluAndK dst imm, .aluAndX dst src, .aluLshK dst imm, .aluLshX dst src,
        .aluRshK dst imm, .aluRshX dst src, .aluXorK dst imm, .aluXorX dst src, .aluMovK dst imm, .aluMovX dst src] : List Instr),
      exec i s = .next t → t.result = .ok → ∃ v, t.reg? dst = some v ∧ v.toNat < 2 ^ 32

/-! ## Frames -/

/-- What an instruction leaves unchanged, for every instruction: the program and every byte of it; every register but the
destination of an interpreted arithmetic instruction (`Instr.registers` lists it first); and, where the step does not
complete, the whole state but the result handed back (R12, R19, R241). -/
def Obligations.InstructionFrame : Prop :=
  ∀ (i : Instr) (s t : State), exec i s = .next t →
    t.prog = s.prog ∧
    (∀ a, Memory.readByte t.prog a = Memory.readByte s.prog a) ∧
    (∀ r, i.registers.head? ≠ some r → t.reg? r = s.reg? r) ∧
    ((t.result = .ok ∧ t.state = .running) ∨ t = { s with result := .invalidRegister })

/-- The result of an instruction depends on no register but those it names: two states alike in `pc` and in the registers
the instruction indexes are answered alike there (R12). -/
def Obligations.InstructionReadsOnlyItsRegisters : Prop :=
  ∀ (i : Instr) (s s' t t' : State), s.pc = s'.pc → (∀ r ∈ i.registers, s.reg? r = s'.reg? r) →
    exec i s = .next t → exec i s' = .next t' →
      t.result = t'.result ∧ t.pc = t'.pc ∧ ∀ r ∈ i.registers, t.reg? r = t'.reg? r

/-- No operation of the block writes a slot: a step and `NextInstruction` leave the attached program and every byte of it as
they are, and `LoadProgram` attaches its argument as it is (R19). -/
def Obligations.NoOperationWritesASlot : Prop :=
  ∀ s t : State,
    (∀ r, operate .executeStep s = .next (t, r) →
      t.prog = s.prog ∧ ∀ a, Memory.readByte t.prog a = Memory.readByte s.prog a) ∧
    (∀ r, operate .nextInstruction s = .next (t, r) → t.prog = s.prog) ∧
    (∀ p r, operate (.loadProgram p) s = .next (t, r) → t.prog = p)

/-! ## Invariants and runs -/

/-- The invariant of R209 holds after reset. -/
def Obligations.InvariantHoldsAtReset : Prop := State.reset.Inv

/-- Every step keeps the invariant of R209, from every state that has it: the store is one that `Pair` makes, `pc <= L`,
`pc` never points at an extension slot, and Halted means `pc = L`. -/
def Obligations.StepKeepsTheInvariant : Prop :=
  ∀ s t : State, s.Inv → step s = .next t → t.Inv

/-- In a state with the invariant a step always answers a next state, and the result it hands back is OK, `EndOfProgram` or
`InvalidRegister`, never a condition of `Render` or of the loader (R4, R204). -/
def Obligations.StepsNeverStopOrRaiseADecodeCondition : Prop :=
  ∀ s : State, s.Inv → ∃ t, step s = .next t ∧
    (t.result = .ok ∨ t.result = .endOfProgram ∨ t.result = .invalidRegister)

/-- In every state with the invariant of R209 each of the four operations is answered with a next state that has the invariant:
no operation stops or waits (R4, R200, R209). The program of a `LoadProgram` is one that `Pair` makes (R202), of fewer than
2^32 - 1 slots, the bound of the spec's decision D29, which `LoadProgram` does not check (log entry 6). -/
def Obligations.OperationsAreAnsweredAndKeepTheInvariant : Prop :=
  ∀ (s : State) (o : Operation), s.Inv → (∀ p, o = .loadProgram p → Memory.wf p = true) →
    ∃ t r, operate o s = .next (t, r) ∧ t.Inv

/-- A program of `L` slots with `n` extension slots, no instruction of which names a missing register, takes exactly `L - n`
OK steps from its start; the next step hands back `EndOfProgram` and halts (R208). -/
def Obligations.ProgramTakesOneStepPerInstruction : Prop :=
  ∀ s : State, s.Inv → s.pc = 0 → Memory.registersExist s.prog →
    (∀ k, 0 < k → k ≤ Memory.slotCount s.prog - s.prog.countP Slot.isExtSlot →
      ∃ t, core.run k s = .next t ∧ t.result = .ok ∧ t.state = .running) ∧
    ∃ t, core.run (Memory.slotCount s.prog - s.prog.countP Slot.isExtSlot) s = .next t ∧
      t.pc.toNat = Memory.slotCount s.prog ∧
      step t = .next { t with state := .halted, result := .endOfProgram }

/-! ## Rendering -/

/-- `Render` raises `UnsupportedEncoding` exactly for END, for modes ABS and IND, and for the fetching, XCHG and CMPXCHG
atomics of opcodes 0xc3 and 0xdb, each with its reason (R73, R231; D5 and D7 give the numbers). -/
def Obligations.UnsupportedExactlyTheUnimplementedEncodings : Prop :=
  ∀ (ins : Instruction) (r : UnsupportedReason), ins.wf = true →
    (render ins = .unsupported r ↔
      (r = .byteSwap ∧ opcodeOf ins.basic ∈ [0xd4, 0xdc, 0xd7, 0xdf]) ∨
      (r = .legacyAbs ∧ opcodeOf ins.basic &&& 0xe4 = 0x20) ∨
      (r = .legacyInd ∧ opcodeOf ins.basic &&& 0xe4 = 0x40) ∨
      (opcodeOf ins.basic ∈ [0xc3, 0xdb] ∧
        ((r = .atomicFetch ∧ immOf ins.basic ∈ [0x01, 0x41, 0x51, 0xa1]) ∨
         (r = .atomicXchg ∧ immOf ins.basic ∈ [0xe0, 0xe1]) ∨
         (r = .atomicCmpxchg ∧ immOf ins.basic ∈ [0xf0, 0xf1]))))

/-- `Render` raises `InvalidOpcode` exactly for the structurally undefined encodings, each with its reason (R72, R232; which
of them are invalid rather than unsupported is the spec's decisions D15, D18, D20, D21). -/
def Obligations.InvalidExactlyTheUndefinedEncodings : Prop :=
  ∀ (ins : Instruction) (r : InvalidReason), ins.wf = true →
    (render ins = .invalid r ↔
      (r = .arithCode ∧ opcodeOf ins.basic ∈ [0xe4, 0xec, 0xe7, 0xef, 0xf4, 0xfc, 0xf7, 0xff]) ∨
      (r = .jumpCode ∧ opcodeOf ins.basic ∈ [0xe5, 0xed, 0xe6, 0xee, 0xf5, 0xfd, 0xf6, 0xfe]) ∨
      (r = .callSelector ∧ opcodeOf ins.basic ∈ [0x85, 0x8d, 0x86, 0x8e] ∧ 3 ≤ (srcOf ins.basic).toNat) ∨
      (r = .lsMode ∧ (opcodeOf ins.basic &&& 0xe4 = 0xa0 ∨ opcodeOf ins.basic &&& 0xe4 = 0xe0)) ∨
      (r = .immSelector ∧ opcodeOf ins.basic &&& 0xe4 = 0 ∧ 7 ≤ (srcOf ins.basic).toNat) ∨
      (r = .memClass ∧ opcodeOf ins.basic ∈ [0x60, 0x68, 0x70, 0x78]) ∨
      (r = .memsxClass ∧ opcodeOf ins.basic &&& 0xe4 = 0x80 ∧ opcodeOf ins.basic &&& 0x03 ≠ 1) ∨
      (r = .atomicSize ∧ opcodeOf ins.basic ∈ [0xc8, 0xc9, 0xca, 0xcb, 0xd0, 0xd1, 0xd2, 0xd3]) ∨
      (r = .atomicClass ∧ opcodeOf ins.basic ∈ [0xc0, 0xc1, 0xc2, 0xd8, 0xd9, 0xda]) ∨
      (r = .atomicOp ∧ opcodeOf ins.basic ∈ [0xc3, 0xdb] ∧ namesAtomicOp (immOf ins.basic) = false))

/-- No text of `Render` is longer than 52 characters, so none reaches `TEXT_MAX` (decision D33, 00_scope.md section 4). The spec
counts bytes; a text is here a `String` of ASCII, one character for one byte, the model's choice, log entry 8. -/
def Obligations.TextsAreAtMostFiftyTwoCharacters : Prop :=
  ∀ (ins : Instruction) (t : String), render ins = .ok t → t.length ≤ 52 ∧ t.length ≤ Config.textMax

/-- `dec` of a natural number is its decimal digits, most significant first, without leading zeros, and `0` for 0; a negative
number is a `-` and the digits of its absolute value (R80; the negative form is the spec's decision D34). A jump displacement
prints its sign, `+` also for 0, and then the digits of its absolute value (R81; decision D14). An offset prints as its operator
and the digits of its absolute value with no sign, so never as `+ -N` (R85). The jump and load texts show both. -/
def Obligations.DecimalTextSpellsTheNumber : Prop :=
  (∀ n : Nat, (decNat n).toList.foldl (fun acc c => 10 * acc + (c.toNat - 48)) 0 = n ∧
    (∀ c ∈ (decNat n).toList, 48 ≤ c.toNat ∧ c.toNat ≤ 57) ∧
    (0 < n → (decNat n).toList.head? ≠ some '0') ∧ (n = 0 → decNat n = "0")) ∧
  (∀ n : Int, dec n = if n < 0 then "-" ++ decNat n.natAbs else decNat n.natAbs) ∧
  (∀ n : Int, sdec n = (if n < 0 then "-" else "+") ++ decNat n.natAbs) ∧
  (∀ o : Int, offOp o = (if o < 0 then "-" else "+") ∧ offMag o = decNat o.natAbs) ∧
  (∀ off : OffField, render ⟨mkWord 0x05 0 0 off 0, none, false⟩ =
    .ok ("goto " ++ (if off.toInt < 0 then "-" else "+") ++ decNat off.toInt.natAbs)) ∧
  (∀ (dst src : RegField) (off : OffField), render ⟨mkWord 0x61 src dst off 0, none, false⟩ =
    .ok ("r" ++ decNat dst.toNat ++ " = *(u32 *)(r" ++ decNat src.toNat ++ (if off.toInt < 0 then " - " else " + ") ++
      decNat off.toInt.natAbs ++ ")"))

/-- `hex16` is sixteen lower-case hexadecimal digits that spell the word, most significant first (R83; the case is the spec's
decision D31). -/
def Obligations.HexDumpSpellsTheWord : Prop :=
  ∀ w : Word, (hex16 w).length = 16 ∧
    (∀ c ∈ (hex16 w).toList, (48 ≤ c.toNat ∧ c.toNat ≤ 57) ∨ (97 ≤ c.toNat ∧ c.toNat ≤ 102)) ∧
    (hex16 w).toList.foldl (fun acc c => 16 * acc + (if c.toNat ≤ 57 then c.toNat - 48 else c.toNat - 87)) 0 = w.toNat

/-- A line is the padded index and `": "` when `cfg_number`, then the hex dump of the word, or of the two words of an
extended instruction, and a space when `cfg_bytes`, then the text; and when `Render` is not OK there is no line but the
same condition with the slot index (R90, R94). -/
def Obligations.LineIsIndexDumpAndText : Prop :=
  ∀ (i width : Nat) (ins : Instruction) (number bytes : Bool), ins.wf = true →
    (∀ t, render ins = .ok t →
      renderLine i ins width ⟨number, bytes⟩ =
        .ok ((if number then pad i width ++ ": " else "") ++
          (if bytes then hex16 ins.basic ++ (match ins.extension with | some e => hex16 e | none => "") ++ " " else "") ++ t)) ∧
    (∀ r, render ins = .unsupported r →
      renderLine i ins width ⟨number, bytes⟩ = .condition (.unsupportedEncoding r (some i))) ∧
    (∀ r, render ins = .invalid r →
      renderLine i ins width ⟨number, bytes⟩ = .condition (.invalidOpcode r (some i)))

/-- Every index of a program prints in the same width, the digit count of the highest index, as zeros and then the decimal of
the index (R91; base 0 is the spec's decision D30). -/
def Obligations.IndicesArePaddedToOneWidth : Prop :=
  ∀ l i : Nat, i < l →
    (pad i (indexWidth l)).length = indexWidth l ∧
    ∃ z, (pad i (indexWidth l)).toList = List.replicate z '0' ++ (decNat i).toList

/-- The listing of a paired program all of whose instructions render has one line for each head slot, in index order, and
none for an extension slot: a stream of `N` words with `n` extended instructions gives `N - n` lines (R93). -/
def Obligations.ListingHasOneLinePerHead : Prop :=
  ∀ (ws : List Word) (m : Memory) (choice : Nat → OnUnsupported) (cfg : LineConfig), pair ws = .ok m →
    (∀ i head ins, m[i]? = some head → instrAt m i head = .ok ins → ∃ t, render ins = .ok t) →
      (listing choice cfg m).ended = .ok ∧
      (listing choice cfg m).lines = (List.range ws.length).filterMap (lineAt cfg m) ∧
      (listing choice cfg m).lines.length = ws.length - m.countP Slot.isExtSlot

/-- A listing ends at the lowest-index refused slot that the host does not skip, with that slot's condition and index and with the
lines of the slots before it only: always at an `InvalidOpcode`, whatever the host's choices, and at an `UnsupportedEncoding`
where the host's choice for that slot is to abort (R237, R238, R240; decisions D22, D24). That the choice may differ from slot to
slot is the model's, log entry 11. -/
def Obligations.InvalidOpcodeEndsTheListing : Prop :=
  ∀ (ws : List Word) (m : Memory) (choice : Nat → OnUnsupported) (cfg : LineConfig) (i : Nat) (head : Slot) (ins : Instruction),
    pair ws = .ok m → m[i]? = some head → instrAt m i head = .ok ins →
    (∀ j h q, j < i → m[j]? = some h → instrAt m j h = .ok q →
      (∀ r, render q ≠ .invalid r) ∧ (∀ r, render q = .unsupported r → choice j = .skip)) →
      (∀ r, render ins = .invalid r →
        (listing choice cfg m).ended = .invalidOpcode r (some i) ∧
        (listing choice cfg m).lines = (List.range i).filterMap (lineAt cfg m)) ∧
      (∀ r, render ins = .unsupported r → choice i = .abort →
        (listing choice cfg m).ended = .unsupportedEncoding r (some i) ∧
        (listing choice cfg m).lines = (List.range i).filterMap (lineAt cfg m))
end

