-- ==== Sys2Proof/Laws/State.lean ====
section
/-! SUPPORT. One lemma per field of `State` per named update, and what a register reads after a register is written. -/

namespace Sys2Proof.Laws

open Sys2Proof Sys2Proof.Machine

variable (s : State)

@[simp] theorem setReg_pc (r : RegField) (v : Word) : (s.setReg r v).pc = s.pc := rfl
@[simp] theorem setReg_state (r : RegField) (v : Word) : (s.setReg r v).state = s.state := rfl
@[simp] theorem setReg_prog (r : RegField) (v : Word) : (s.setReg r v).prog = s.prog := rfl
@[simp] theorem setReg_result (r : RegField) (v : Word) : (s.setReg r v).result = s.result := rfl
@[simp] theorem setReg_x (r : RegField) (v : Word) : (s.setReg r v).x = s.x.setIfInBounds r.toNat v := rfl

@[simp] theorem completed_x (n : BitVec Config.pcWidth) : (s.completed n).x = s.x := rfl
@[simp] theorem completed_pc (n : BitVec Config.pcWidth) : (s.completed n).pc = s.pc + n := rfl
@[simp] theorem completed_state (n : BitVec Config.pcWidth) : (s.completed n).state = .running := rfl
@[simp] theorem completed_prog (n : BitVec Config.pcWidth) : (s.completed n).prog = s.prog := rfl
@[simp] theorem completed_result (n : BitVec Config.pcWidth) : (s.completed n).result = .ok := rfl

@[simp] theorem raise_x (c : Condition) : (s.raise c).x = s.x := by cases c <;> rfl
@[simp] theorem raise_pc (c : Condition) : (s.raise c).pc = s.pc := by cases c <;> rfl
@[simp] theorem raise_prog (c : Condition) : (s.raise c).prog = s.prog := by cases c <;> rfl
@[simp] theorem raise_result (c : Condition) : (s.raise c).result = c := by cases c <;> rfl
@[simp] theorem raise_state (c : Condition) :
    (s.raise c).state = if c = .endOfProgram then .halted else s.state := by cases c <;> rfl

@[simp] theorem loadProgram_x (p : Memory) : (s.loadProgram p).x = s.x := rfl
@[simp] theorem loadProgram_pc (p : Memory) : (s.loadProgram p).pc = 0 := rfl
@[simp] theorem loadProgram_state (p : Memory) : (s.loadProgram p).state = .ready := rfl
@[simp] theorem loadProgram_prog (p : Memory) : (s.loadProgram p).prog = p := rfl
@[simp] theorem loadProgram_result (p : Memory) : (s.loadProgram p).result = .ok := rfl

@[simp] theorem reset_pc : State.reset.pc = 0 := rfl
@[simp] theorem reset_state : State.reset.state = .ready := rfl
@[simp] theorem reset_prog : State.reset.prog = [] := rfl
@[simp] theorem reset_result : State.reset.result = .ok := rfl

@[simp] theorem reg?_completed (r : RegField) (n : BitVec Config.pcWidth) : (s.completed n).reg? r = s.reg? r := rfl
@[simp] theorem reg?_raise (r : RegField) (c : Condition) : (s.raise c).reg? r = s.reg? r := by cases c <;> rfl

/-- There is a register exactly for the ids 0 to 10 (R10, R205). -/
theorem reg?_isSome (r : RegField) : (s.reg? r).isSome = decide (r.toNat < Config.numRegs) := by
  by_cases h : r.toNat < Config.numRegs <;> simp [State.reg?, h]

/-- A field of 11 to 15 names no register (R205). -/
theorem reg?_eq_none {r : RegField} : s.reg? r = none ↔ Config.numRegs ≤ r.toNat := by
  have h := reg?_isSome s r
  cases hr : s.reg? r <;> simp_all

/-- A register that exists reads as written; writing a field that names none writes nothing. -/
theorem reg?_setReg_self (r : RegField) (v : Word) :
    (s.setReg r v).reg? r = (s.reg? r).map (fun _ => v) := by
  by_cases h : r.toNat < 11 <;> simp [State.reg?, State.setReg, h]

/-- Writing one register leaves every other alone. -/
theorem reg?_setReg_ne {q r : RegField} (h : q ≠ r) (v : Word) : (s.setReg r v).reg? q = s.reg? q := by
  have h' : r.toNat ≠ q.toNat := fun e => h (BitVec.eq_of_toNat_eq e.symm)
  simp only [State.reg?, State.setReg]
  rw [Vector.getElem?_setIfInBounds_ne h']

end Sys2Proof.Laws
end

