-- ==== Sys2Proof/Laws/Ops.lean ====
section
/-! SUPPORT. For each shared operation, one lemma that says once everything it can do: the fetch of an Instruction, the
fetch and test of a step, and the action on an interpreted instruction. -/

namespace Sys2Proof.Laws

open Sys2Proof Sys2Proof.Machine

/-- What the fetch of `Instr(i)` answers, and when (R20). -/
theorem instrAt_cases (m : Memory) (i : Nat) (head : Slot) :
    (head.isExtSlot = true ∧ instrAt m i head = .error .extensionSlotFetched) ∨
    (head.isExtSlot = false ∧ isExtended head.word = false ∧ instrAt m i head = .ok ⟨head.word, none, false⟩) ∨
    (head.isExtSlot = false ∧ isExtended head.word = true ∧ m[i + 1]? = none ∧
      instrAt m i head = .error .extensionWordAbsent) ∨
    (∃ e, head.isExtSlot = false ∧ isExtended head.word = true ∧ m[i + 1]? = some e ∧
      instrAt m i head = .ok ⟨head.word, some e.word, true⟩) := by
  unfold instrAt
  cases h1 : head.isExtSlot <;> cases h2 : isExtended head.word <;> cases h3 : m[i + 1]? <;> simp

/-- An Instruction that the fetch answers has the slot's word as its basic word and meets the invariant of R20. -/
theorem instrAt_ok {m : Memory} {i : Nat} {head : Slot} {ins : Instruction} (h : instrAt m i head = .ok ins) :
    head.isExtSlot = false ∧ ins.basic = head.word ∧ ins.isExtended = isExtended head.word ∧ ins.wf = true := by
  rcases instrAt_cases m i head with ⟨_, h'⟩ | ⟨h1, h2, h'⟩ | ⟨_, _, _, h'⟩ | ⟨e, h1, h2, _, h'⟩ <;>
    rw [h'] at h <;> cases h <;> simp_all [Instruction.wf]

/-- What a step answers (R204): the end of the program, a store that `Pair` never makes, or the action of the decoded
instruction. -/
theorem executeStep_cases (s : State) (run : Instr → State → Result) :
    (Memory.slotCount s.prog ≤ s.pc.toNat ∧ s.executeStep run = .next (s.raise .endOfProgram)) ∨
    (∃ head f, s.prog[s.pc.toNat]? = some head ∧ instrAt s.prog s.pc.toNat head = .error f ∧
      s.executeStep run = .fault f) ∨
    (∃ head ins, s.prog[s.pc.toNat]? = some head ∧ instrAt s.prog s.pc.toNat head = .ok ins ∧
      s.executeStep run = run ins.decoded s) := by
  unfold State.executeStep
  cases h : s.prog[s.pc.toNat]? with
  | none => exact .inl ⟨by simpa [Memory.slotCount] using h, rfl⟩
  | some head =>
    cases h' : instrAt s.prog s.pc.toNat head with
    | error f => exact .inr (.inl ⟨head, f, rfl, h', by simp [h']⟩)
    | ok ins => exact .inr (.inr ⟨head, ins, rfl, h', by simp [h']⟩)

/-- The registers an operand indexes: that of Source X, none of Source K (R205). -/
def operandRegisters : Operand → List RegField
  | .k _ => []
  | .x src => [src]

/-- The action on an interpreted instruction (R101, R205): the result in `dst` and the step completed, or
`InvalidRegister` with nothing written, exactly when a named register does not exist. -/
theorem interpret_cases (s : State) (w : Width) (f : (n : Nat) → BitVec n → BitVec n → BitVec n) (dst : RegField)
    (o : Operand) :
    (∃ a b, s.reg? dst = some a ∧ o.value s = some b ∧
      s.interpret w f dst o = .next ((s.setReg dst (w.apply f a b)).completed 1)) ∨
    ((s.reg? dst = none ∨ o.value s = none) ∧ s.interpret w f dst o = .next (s.raise .invalidRegister)) := by
  unfold State.interpret
  cases h1 : s.reg? dst <;> cases h2 : o.value s <;> simp

/-- An operand has a value exactly when the registers it indexes exist. -/
theorem operand_value_isSome (o : Operand) (s : State) :
    (o.value s).isSome = (operandRegisters o).all (fun r => decide (r.toNat < Config.numRegs)) := by
  cases o <;> simp [Operand.value, operandRegisters, reg?_isSome]

end Sys2Proof.Laws
end

