-- ==== Sys2Proof/Laws/Exec.lean ====
section
/-! SUPPORT. The two shapes an instruction's meaning has, by instruction (R101, R206): proved once over all constructors,
so that no later proof splits `exec` again. -/

namespace Sys2Proof.Laws

open Sys2Proof Sys2Proof.Machine

/-- The number of slots `pc` moves past: 2 for an instruction whose encoding has two words (R207). -/
def instrSlots (i : Instr) : BitVec Config.pcWidth := if (encode i).length = 2 then 2 else 1

/-- The whole of `exec`: an instruction that is not interpreted is stepped over; an interpreted one has an operation, a
width, a destination and an operand whose registers are the ones `Instr.registers` lists, and takes one slot. -/
theorem exec_cases (i : Instr) :
    (i.registers = [] ∧ ∀ s, exec i s = s.stepOver (instrSlots i)) ∨
    (∃ w f dst o, i.registers = dst :: operandRegisters o ∧ instrSlots i = 1 ∧ ∀ s, exec i s = s.interpret w f dst o) := by
  cases i <;>
    first
    | exact .inl ⟨rfl, fun _ => rfl⟩
    | exact .inr ⟨_, _, _, .k _, rfl, rfl, fun _ => rfl⟩
    | exact .inr ⟨_, _, _, .x _, rfl, rfl, fun _ => rfl⟩

/-- Everything `exec` can answer, by what it writes: a step over, a completed interpretation, or `InvalidRegister`. -/
theorem exec_next (i : Instr) (s : State) :
    (i.registers = [] ∧ exec i s = .next (s.completed (instrSlots i))) ∨
    (∃ dst rest v, i.registers = dst :: rest ∧ i.registersExist = true ∧ instrSlots i = 1 ∧
      exec i s = .next ((s.setReg dst v).completed 1)) ∨
    (i.registersExist = false ∧ exec i s = .next (s.raise .invalidRegister)) := by
  rcases exec_cases i with ⟨hr, he⟩ | ⟨w, f, dst, o, hr, hn, he⟩
  · exact .inl ⟨hr, he s⟩
  · have hd := reg?_isSome s dst
    have ho := operand_value_isSome o s
    rcases interpret_cases s w f dst o with ⟨a, b, ha, hb, hi⟩ | ⟨hnone, hi⟩
    · refine .inr (.inl ⟨dst, operandRegisters o, w.apply f a b, hr, ?_, hn, (he s).trans hi⟩)
      simp_all [Instr.registersExist]
    · refine .inr (.inr ⟨?_, (he s).trans hi⟩)
      rcases hnone with h | h <;> simp_all [Instr.registersExist]

end Sys2Proof.Laws
end

