-- ==== Sys2Proof/Laws/Fields.lean ====
section
/-! SUPPORT. The fields of a word put together by `mkWord`, the byte order of a field turned round twice, and a word read
back from its stream bytes. -/

namespace Sys2Proof.Laws

open Sys2Proof

@[simp] theorem swap16_swap16 (v : BitVec 16) : swap16 (swap16 v) = v := by
  apply BitVec.eq_of_getLsbD_eq
  intro i hi
  simp only [swap16, BitVec.getLsbD_append, BitVec.getLsbD_extractLsb']
  interval_cases i <;> simp

@[simp] theorem swap32_swap32 (v : BitVec 32) : swap32 (swap32 v) = v := by
  apply BitVec.eq_of_getLsbD_eq
  intro i hi
  simp only [swap32, BitVec.getLsbD_append, BitVec.getLsbD_extractLsb']
  interval_cases i <;> simp

@[simp] theorem opcodeOf_mkWord (op : Opcode) (src dst : RegField) (off : OffField) (imm : ImmField) :
    opcodeOf (mkWord op src dst off imm) = op := by
  apply BitVec.eq_of_getLsbD_eq
  intro i hi
  simp only [opcodeOf, mkWord, BitVec.getLsbD_append, BitVec.getLsbD_extractLsb']
  interval_cases i <;> simp

@[simp] theorem srcOf_mkWord (op : Opcode) (src dst : RegField) (off : OffField) (imm : ImmField) :
    srcOf (mkWord op src dst off imm) = src := by
  apply BitVec.eq_of_getLsbD_eq
  intro i hi
  simp only [srcOf, mkWord, BitVec.getLsbD_append, BitVec.getLsbD_extractLsb']
  interval_cases i <;> simp

@[simp] theorem dstOf_mkWord (op : Opcode) (src dst : RegField) (off : OffField) (imm : ImmField) :
    dstOf (mkWord op src dst off imm) = dst := by
  apply BitVec.eq_of_getLsbD_eq
  intro i hi
  simp only [dstOf, mkWord, BitVec.getLsbD_append, BitVec.getLsbD_extractLsb']
  interval_cases i <;> simp

@[simp] theorem offOf_mkWord (op : Opcode) (src dst : RegField) (off : OffField) (imm : ImmField) :
    offOf (mkWord op src dst off imm) = off := by
  have h : (mkWord op src dst off imm).extractLsb' 32 16 = swap16 off := by
    apply BitVec.eq_of_getLsbD_eq
    intro i hi
    simp only [mkWord, BitVec.getLsbD_append, BitVec.getLsbD_extractLsb']
    interval_cases i <;> simp
  rw [offOf, h, swap16_swap16]

@[simp] theorem immOf_mkWord (op : Opcode) (src dst : RegField) (off : OffField) (imm : ImmField) :
    immOf (mkWord op src dst off imm) = imm := by
  have h : (mkWord op src dst off imm).extractLsb' 0 32 = swap32 imm := by
    apply BitVec.eq_of_getLsbD_eq
    intro i hi
    simp only [mkWord, BitVec.getLsbD_append, BitVec.getLsbD_extractLsb']
    interval_cases i <;> simp
  rw [immOf, h, swap32_swap32]

/-- A word is its five fields in the layout of R50. -/
theorem mkWord_fields (w : Word) : mkWord (opcodeOf w) (srcOf w) (dstOf w) (offOf w) (immOf w) = w := by
  apply BitVec.eq_of_getLsbD_eq
  intro i hi
  simp only [mkWord, opcodeOf, srcOf, dstOf, offOf, immOf, swap16_swap16, swap32_swap32, BitVec.getLsbD_append,
    BitVec.getLsbD_extractLsb']
  interval_cases i <;> simp

@[simp] theorem takeWord_streamBytes (w : Word) (rest : List Byte) : takeWord (streamBytes w ++ rest) = some (w, rest) := by
  simp only [streamBytes, List.cons_append, List.nil_append, takeWord, Option.some.injEq, Prod.mk.injEq, and_true]
  apply BitVec.eq_of_getLsbD_eq
  intro i hi
  simp only [BitVec.getLsbD_append, BitVec.getLsbD_extractLsb']
  interval_cases i <;> simp

@[simp] theorem streamBytes_length (w : Word) : (streamBytes w).length = 8 := rfl

/-- The extended opcode bytes are those with `opcode & 0xe4 = 0` (R70). -/
theorem opExtended_eq_mask : ∀ op : Opcode, opExtended op = (op &&& 0xe4 == 0) := by decide +kernel

/-- The typed opcode of a load/store opcode byte put together from its parts (R50, R63). -/
@[simp] theorem toTyped_lsOpcode (m : Mode) (z : Size) (c : LSClass) : toTyped (lsOpcode m z c) = .loadStore c m z := by
  cases m <;> cases z <;> cases c <;> decide

/-- An opcode byte put together from a mode, a size and a class is extended exactly when the mode is IMM (R70). -/
@[simp] theorem opExtended_lsOpcode (m : Mode) (z : Size) (c : LSClass) :
    opExtended (lsOpcode m z c) = decide (m = .imm) := by
  cases m <;> simp [opExtended]

/-- Whether a word put together from its fields is extended depends on its opcode byte only (R70). -/
@[simp] theorem isExtended_mkWord (op : Opcode) (src dst : RegField) (off : OffField) (imm : ImmField) :
    isExtended (mkWord op src dst off imm) = opExtended op := by
  rw [isExtended, opcodeOf_mkWord]

/-- A basic word that is not extended decodes alone (R71). -/
theorem decode_basic {w : Word} (h : isExtended w = false) (rest : List Byte) :
    decode (streamBytes w ++ rest) = .ok (decodeWords w 0, rest) := by
  simp [decode, h]

/-- An extended basic word decodes with the word after it (R58, R71). -/
theorem decode_extended {w : Word} (h : isExtended w = true) (e : Word) (rest : List Byte) :
    decode (streamBytes w ++ (streamBytes e ++ rest)) = .ok (decodeWords w e, rest) := by
  simp [decode, h]

end Sys2Proof.Laws
end

