-- ==== Sys2Proof/Laws/Line.lean ====
section
/-! SUPPORT. Everything the listing can do at one slot of a store: the lines before a slot, and how the listing ends, follow from
these by induction on the store. -/

namespace Sys2Proof.Laws

open Sys2Proof Sys2Proof.Machine

variable (choice : Nat → OnUnsupported) (cfg : LineConfig) (width : Nat)

/-- The listing past the last slot has no line and ends with OK. -/
@[simp] theorem listFrom_nil (i : Nat) : listFrom choice cfg width i [] = ⟨[], .ok⟩ := rfl

/-- An extension slot gives no line (R38, R93). -/
theorem listFrom_ext (i : Nat) {h : Slot} (rest : Memory) (hx : h.isExtSlot = true) :
    listFrom choice cfg width i (h :: rest) = listFrom choice cfg width (i + 1) rest := by
  simp [listFrom, hx]

/-- A head slot that the fetch answers gives its line, or ends the listing, or is skipped, by what `Render` makes of its
Instruction and by the host's choice for that slot (R93, R237, R238, R240). -/
theorem listFrom_head {m rest : Memory} {i : Nat} {h : Slot} {ins : Instruction} (hm : m.drop i = h :: rest)
    (hi : instrAt m i h = .ok ins) :
    (∃ t, render ins = .ok t ∧ listFrom choice cfg width i (h :: rest) =
      ⟨(indexText cfg i width ++ dumpText cfg ins ++ t) :: (listFrom choice cfg width (i + 1) rest).lines,
        (listFrom choice cfg width (i + 1) rest).ended⟩) ∨
    (∃ r, render ins = .unsupported r ∧ choice i = .skip ∧
      listFrom choice cfg width i (h :: rest) = listFrom choice cfg width (i + 1) rest) ∨
    (∃ r, render ins = .unsupported r ∧ choice i = .abort ∧
      listFrom choice cfg width i (h :: rest) = ⟨[], .unsupportedEncoding r (some i)⟩) ∨
    (∃ r, render ins = .invalid r ∧ listFrom choice cfg width i (h :: rest) = ⟨[], .invalidOpcode r (some i)⟩) ∨
    (render ins = .notAnInstruction ∧ listFrom choice cfg width i (h :: rest) = ⟨[], .missingExtensionWord i⟩) := by
  have hnext : m[i + 1]? = rest.head? := by
    have := congrArg (fun l => l[1]?) hm
    rw [List.head?_eq_getElem?]
    simpa using this
  have hrec : h.isExtSlot = false ∧
      (⟨h.word, if isExtended h.word then rest.head?.map Slot.word else none, isExtended h.word⟩ : Instruction) = ins := by
    rcases instrAt_cases m i h with ⟨_, h'⟩ | ⟨h1, h2, h'⟩ | ⟨_, _, _, h'⟩ | ⟨e, h1, h2, h3, h'⟩ <;>
      rw [h'] at hi <;> cases hi
    · simp [h1, h2]
    · simp [h1, h2, ← hnext, h3]
  simp only [listFrom, hrec.1, hrec.2, renderLine]
  cases render ins <;> cases choice i <;> simp

end Sys2Proof.Laws
end

