-- ==== Sys2Proof/Laws/Memory.lean ====
section
/-! SUPPORT. The form of the program store: reset has it, `Pair` makes it, and no operation of the stepper writes a slot
(R18, R19, R36). The byte view of the store. -/

namespace Sys2Proof.Laws

open Sys2Proof Sys2Proof.Machine

/-- The store after reset has the form (R22). -/
theorem reset_wf : Memory.wf State.reset.prog = true := by decide

/-- What the pairing scan makes is tagged as the scan tags (R36). -/
theorem pairFrom_tagged (i : Nat) (ws : List Word) (m : Memory) (h : pairFrom i ws = .ok m) : Memory.tagged m = true := by
  induction i, ws using pairFrom.induct generalizing m with
  | case1 i => simp only [pairFrom, Except.ok.injEq] at h; subst h; rfl
  | case2 i w hw => simp [pairFrom, hw] at h
  | case3 i w hw =>
    simp only [pairFrom, hw, Bool.false_eq_true, if_false, Except.ok.injEq] at h
    subst h; simp [Memory.tagged, hw]
  | case4 i w e ws hw m' hm ih =>
    simp only [pairFrom, hw, if_true, hm, Except.ok.injEq] at h
    subst h; simp [Memory.tagged, hw, ih _ hm]
  | case5 i w e ws hw c hm ih => simp [pairFrom, hw, hm] at h
  | case6 i w e ws hw m' hm ih =>
    simp only [pairFrom, hw, Bool.false_eq_true, if_false, hm, Except.ok.injEq] at h
    subst h
    have := ih _ hm
    cases m' with
    | nil => simp [Memory.tagged, hw]
    | cons a rest => simp [Memory.tagged, hw, this]
  | case7 i w e ws hw c hm ih => simp [pairFrom, hw, hm] at h

/-- `LoadProgram` of a store in the form gives a store in the form (R202). -/
theorem loadProgram_wf (s : State) (p : Memory) (h : Memory.wf p = true) : Memory.wf (s.loadProgram p).prog = true := h

/-- Neither a register write, nor completing a step, nor raising a condition touches the store (R19). -/
theorem prog_setReg_completed (s : State) (r : RegField) (v : Word) (n : BitVec Config.pcWidth) :
    ((s.setReg r v).completed n).prog = s.prog := rfl

/-- Eight bytes a slot: the byte view has `8L` bytes (R33). -/
theorem bytes_length (m : Memory) : (Memory.bytes m).length = 8 * Memory.slotCount m := by
  induction m with
  | nil => rfl
  | cons h t ih =>
    simp only [Memory.bytes, Memory.slotCount, List.flatMap_cons, List.length_append, streamBytes, List.length_cons,
      List.length_nil] at ih ⊢
    omega

/-- The byte view of a store is canonical: its addresses rise one by one from 0, so they are strictly rising. -/
theorem cells_addresses (m : Memory) : (Memory.cells m).map Prod.fst = List.range (Memory.bytes m).length := by
  simp only [Memory.cells, List.map_map]
  show (Memory.bytes m).zipIdx.map Prod.snd = _
  rw [List.zipIdx_map_snd, List.range_eq_range']

/-- A head that the scan tagged is followed by a tagged store (R36): after the slots of an instruction the scan meets the
next head, or the end. -/
theorem tagged_cons {h : Slot} {rest : Memory} (ht : Memory.tagged (h :: rest) = true) :
    h.isExtSlot = false ∧
      if isExtended h.word then ∃ e rest', rest = e :: rest' ∧ e.isExtSlot = true ∧ Memory.tagged rest' = true
      else Memory.tagged rest = true := by
  cases rest with
  | nil => cases hx : isExtended h.word <;> simp_all [Memory.tagged]
  | cons e rest' => cases hx : isExtended h.word <;> simp_all [Memory.tagged]

end Sys2Proof.Laws
end

