-- ==== Sys2Proof/Laws/PerInstr.lean ====
section
/-! SUPPORT. One lemma per constructor of `Instr`: its encoding has two words when its opcode is an extended one, else one
(R50, R70, R71). -/

namespace Sys2Proof.Laws

open Sys2Proof

-- The lemmas below are many and small: elaborated one after another they need one thread, not one each.
set_option Elab.async false

/-- The number of words of the encoding is the one the head's opcode announces (R71). -/
def EncodedLength.Statement (i : Instr) : Prop :=
  (encode i).length = if ((encode i).map isExtended).headD false then 2 else 1

theorem EncodedLength.aluAddK (dst : RegField) (imm : ImmField) :
    EncodedLength.Statement (.aluAddK dst imm) := by
  simp [EncodedLength.Statement, encode, opExtended_eq_mask]

theorem EncodedLength.aluAddX (dst : RegField) (src : RegField) :
    EncodedLength.Statement (.aluAddX dst src) := by
  simp [EncodedLength.Statement, encode, opExtended_eq_mask]

theorem EncodedLength.alu64AddK (dst : RegField) (imm : ImmField) :
    EncodedLength.Statement (.alu64AddK dst imm) := by
  simp [EncodedLength.Statement, encode, opExtended_eq_mask]

theorem EncodedLength.alu64AddX (dst : RegField) (src : RegField) :
    EncodedLength.Statement (.alu64AddX dst src) := by
  simp [EncodedLength.Statement, encode, opExtended_eq_mask]

theorem EncodedLength.aluSubK (dst : RegField) (imm : ImmField) :
    EncodedLength.Statement (.aluSubK dst imm) := by
  simp [EncodedLength.Statement, encode, opExtended_eq_mask]

theorem EncodedLength.aluSubX (dst : RegField) (src : RegField) :
    EncodedLength.Statement (.aluSubX dst src) := by
  simp [EncodedLength.Statement, encode, opExtended_eq_mask]

theorem EncodedLength.alu64SubK (dst : RegField) (imm : ImmField) :
    EncodedLength.Statement (.alu64SubK dst imm) := by
  simp [EncodedLength.Statement, encode, opExtended_eq_mask]

theorem EncodedLength.alu64SubX (dst : RegField) (src : RegField) :
    EncodedLength.Statement (.alu64SubX dst src) := by
  simp [EncodedLength.Statement, encode, opExtended_eq_mask]

theorem EncodedLength.aluMulK (dst : RegField) (imm : ImmField) :
    EncodedLength.Statement (.aluMulK dst imm) := by
  simp [EncodedLength.Statement, encode, opExtended_eq_mask]

theorem EncodedLength.aluMulX (dst : RegField) (src : RegField) :
    EncodedLength.Statement (.aluMulX dst src) := by
  simp [EncodedLength.Statement, encode, opExtended_eq_mask]

theorem EncodedLength.alu64MulK (dst : RegField) (imm : ImmField) :
    EncodedLength.Statement (.alu64MulK dst imm) := by
  simp [EncodedLength.Statement, encode, opExtended_eq_mask]

theorem EncodedLength.alu64MulX (dst : RegField) (src : RegField) :
    EncodedLength.Statement (.alu64MulX dst src) := by
  simp [EncodedLength.Statement, encode, opExtended_eq_mask]

theorem EncodedLength.aluDivKSrc0 (dst : RegField) :
    EncodedLength.Statement (.aluDivKSrc0 dst) := by
  simp [EncodedLength.Statement, encode, opExtended_eq_mask]

theorem EncodedLength.aluDivK (dst : RegField) (src : RegField) (imm : ImmField) :
    EncodedLength.Statement (.aluDivK dst src imm) := by
  simp [EncodedLength.Statement, encode, opExtended_eq_mask]

theorem EncodedLength.aluDivXSrc0 (dst : RegField) :
    EncodedLength.Statement (.aluDivXSrc0 dst) := by
  simp [EncodedLength.Statement, encode, opExtended_eq_mask]

theorem EncodedLength.aluDivX (dst : RegField) (src : RegField) :
    EncodedLength.Statement (.aluDivX dst src) := by
  simp [EncodedLength.Statement, encode, opExtended_eq_mask]

theorem EncodedLength.alu64DivKSrc0 (dst : RegField) :
    EncodedLength.Statement (.alu64DivKSrc0 dst) := by
  simp [EncodedLength.Statement, encode, opExtended_eq_mask]

theorem EncodedLength.alu64DivK (dst : RegField) (src : RegField) (imm : ImmField) :
    EncodedLength.Statement (.alu64DivK dst src imm) := by
  simp [EncodedLength.Statement, encode, opExtended_eq_mask]

theorem EncodedLength.alu64DivXSrc0 (dst : RegField) :
    EncodedLength.Statement (.alu64DivXSrc0 dst) := by
  simp [EncodedLength.Statement, encode, opExtended_eq_mask]

theorem EncodedLength.alu64DivX (dst : RegField) (src : RegField) :
    EncodedLength.Statement (.alu64DivX dst src) := by
  simp [EncodedLength.Statement, encode, opExtended_eq_mask]

theorem EncodedLength.aluOrK (dst : RegField) (imm : ImmField) :
    EncodedLength.Statement (.aluOrK dst imm) := by
  simp [EncodedLength.Statement, encode, opExtended_eq_mask]

theorem EncodedLength.aluOrX (dst : RegField) (src : RegField) :
    EncodedLength.Statement (.aluOrX dst src) := by
  simp [EncodedLength.Statement, encode, opExtended_eq_mask]

theorem EncodedLength.alu64OrK (dst : RegField) (imm : ImmField) :
    EncodedLength.Statement (.alu64OrK dst imm) := by
  simp [EncodedLength.Statement, encode, opExtended_eq_mask]

theorem EncodedLength.alu64OrX (dst : RegField) (src : RegField) :
    EncodedLength.Statement (.alu64OrX dst src) := by
  simp [EncodedLength.Statement, encode, opExtended_eq_mask]

theorem EncodedLength.aluAndK (dst : RegField) (imm : ImmField) :
    EncodedLength.Statement (.aluAndK dst imm) := by
  simp [EncodedLength.Statement, encode, opExtended_eq_mask]

theorem EncodedLength.aluAndX (dst : RegField) (src : RegField) :
    EncodedLength.Statement (.aluAndX dst src) := by
  simp [EncodedLength.Statement, encode, opExtended_eq_mask]

theorem EncodedLength.alu64AndK (dst : RegField) (imm : ImmField) :
    EncodedLength.Statement (.alu64AndK dst imm) := by
  simp [EncodedLength.Statement, encode, opExtended_eq_mask]

theorem EncodedLength.alu64AndX (dst : RegField) (src : RegField) :
    EncodedLength.Statement (.alu64AndX dst src) := by
  simp [EncodedLength.Statement, encode, opExtended_eq_mask]

theorem EncodedLength.aluLshK (dst : RegField) (imm : ImmField) :
    EncodedLength.Statement (.aluLshK dst imm) := by
  simp [EncodedLength.Statement, encode, opExtended_eq_mask]

theorem EncodedLength.aluLshX (dst : RegField) (src : RegField) :
    EncodedLength.Statement (.aluLshX dst src) := by
  simp [EncodedLength.Statement, encode, opExtended_eq_mask]

theorem EncodedLength.alu64LshK (dst : RegField) (imm : ImmField) :
    EncodedLength.Statement (.alu64LshK dst imm) := by
  simp [EncodedLength.Statement, encode, opExtended_eq_mask]

theorem EncodedLength.alu64LshX (dst : RegField) (src : RegField) :
    EncodedLength.Statement (.alu64LshX dst src) := by
  simp [EncodedLength.Statement, encode, opExtended_eq_mask]

theorem EncodedLength.aluRshK (dst : RegField) (imm : ImmField) :
    EncodedLength.Statement (.aluRshK dst imm) := by
  simp [EncodedLength.Statement, encode, opExtended_eq_mask]

theorem EncodedLength.aluRshX (dst : RegField) (src : RegField) :
    EncodedLength.Statement (.aluRshX dst src) := by
  simp [EncodedLength.Statement, encode, opExtended_eq_mask]

theorem EncodedLength.alu64RshK (dst : RegField) (imm : ImmField) :
    EncodedLength.Statement (.alu64RshK dst imm) := by
  simp [EncodedLength.Statement, encode, opExtended_eq_mask]

theorem EncodedLength.alu64RshX (dst : RegField) (src : RegField) :
    EncodedLength.Statement (.alu64RshX dst src) := by
  simp [EncodedLength.Statement, encode, opExtended_eq_mask]

theorem EncodedLength.aluNegK (dst : RegField) (src : RegField) :
    EncodedLength.Statement (.aluNegK dst src) := by
  simp [EncodedLength.Statement, encode, opExtended_eq_mask]

theorem EncodedLength.aluNegX (dst : RegField) (src : RegField) :
    EncodedLength.Statement (.aluNegX dst src) := by
  simp [EncodedLength.Statement, encode, opExtended_eq_mask]

theorem EncodedLength.alu64NegK (dst : RegField) (src : RegField) :
    EncodedLength.Statement (.alu64NegK dst src) := by
  simp [EncodedLength.Statement, encode, opExtended_eq_mask]

theorem EncodedLength.alu64NegX (dst : RegField) (src : RegField) :
    EncodedLength.Statement (.alu64NegX dst src) := by
  simp [EncodedLength.Statement, encode, opExtended_eq_mask]

theorem EncodedLength.aluModKSrc0 (dst : RegField) :
    EncodedLength.Statement (.aluModKSrc0 dst) := by
  simp [EncodedLength.Statement, encode, opExtended_eq_mask]

theorem EncodedLength.aluModK (dst : RegField) (src : RegField) (imm : ImmField) :
    EncodedLength.Statement (.aluModK dst src imm) := by
  simp [EncodedLength.Statement, encode, opExtended_eq_mask]

theorem EncodedLength.aluModXSrc0 (dst : RegField) :
    EncodedLength.Statement (.aluModXSrc0 dst) := by
  simp [EncodedLength.Statement, encode, opExtended_eq_mask]

theorem EncodedLength.aluModX (dst : RegField) (src : RegField) :
    EncodedLength.Statement (.aluModX dst src) := by
  simp [EncodedLength.Statement, encode, opExtended_eq_mask]

theorem EncodedLength.alu64ModKSrc0 (dst : RegField) :
    EncodedLength.Statement (.alu64ModKSrc0 dst) := by
  simp [EncodedLength.Statement, encode, opExtended_eq_mask]

theorem EncodedLength.alu64ModK (dst : RegField) (src : RegField) (imm : ImmField) :
    EncodedLength.Statement (.alu64ModK dst src imm) := by
  simp [EncodedLength.Statement, encode, opExtended_eq_mask]

theorem EncodedLength.alu64ModXSrc0 (dst : RegField) :
    EncodedLength.Statement (.alu64ModXSrc0 dst) := by
  simp [EncodedLength.Statement, encode, opExtended_eq_mask]

theorem EncodedLength.alu64ModX (dst : RegField) (src : RegField) :
    EncodedLength.Statement (.alu64ModX dst src) := by
  simp [EncodedLength.Statement, encode, opExtended_eq_mask]

theorem EncodedLength.aluXorK (dst : RegField) (imm : ImmField) :
    EncodedLength.Statement (.aluXorK dst imm) := by
  simp [EncodedLength.Statement, encode, opExtended_eq_mask]

theorem EncodedLength.aluXorX (dst : RegField) (src : RegField) :
    EncodedLength.Statement (.aluXorX dst src) := by
  simp [EncodedLength.Statement, encode, opExtended_eq_mask]

theorem EncodedLength.alu64XorK (dst : RegField) (imm : ImmField) :
    EncodedLength.Statement (.alu64XorK dst imm) := by
  simp [EncodedLength.Statement, encode, opExtended_eq_mask]

theorem EncodedLength.alu64XorX (dst : RegField) (src : RegField) :
    EncodedLength.Statement (.alu64XorX dst src) := by
  simp [EncodedLength.Statement, encode, opExtended_eq_mask]

theorem EncodedLength.aluMovK (dst : RegField) (imm : ImmField) :
    EncodedLength.Statement (.aluMovK dst imm) := by
  simp [EncodedLength.Statement, encode, opExtended_eq_mask]

theorem EncodedLength.aluMovX (dst : RegField) (src : RegField) :
    EncodedLength.Statement (.aluMovX dst src) := by
  simp [EncodedLength.Statement, encode, opExtended_eq_mask]

theorem EncodedLength.alu64MovK (dst : RegField) (imm : ImmField) :
    EncodedLength.Statement (.alu64MovK dst imm) := by
  simp [EncodedLength.Statement, encode, opExtended_eq_mask]

theorem EncodedLength.alu64MovX (dst : RegField) (src : RegField) :
    EncodedLength.Statement (.alu64MovX dst src) := by
  simp [EncodedLength.Statement, encode, opExtended_eq_mask]

theorem EncodedLength.aluArshK (dst : RegField) (imm : ImmField) :
    EncodedLength.Statement (.aluArshK dst imm) := by
  simp [EncodedLength.Statement, encode, opExtended_eq_mask]

theorem EncodedLength.aluArshX (dst : RegField) (src : RegField) :
    EncodedLength.Statement (.aluArshX dst src) := by
  simp [EncodedLength.Statement, encode, opExtended_eq_mask]

theorem EncodedLength.alu64ArshK (dst : RegField) (imm : ImmField) :
    EncodedLength.Statement (.alu64ArshK dst imm) := by
  simp [EncodedLength.Statement, encode, opExtended_eq_mask]

theorem EncodedLength.alu64ArshX (dst : RegField) (src : RegField) :
    EncodedLength.Statement (.alu64ArshX dst src) := by
  simp [EncodedLength.Statement, encode, opExtended_eq_mask]

theorem EncodedLength.aluEndK :
    EncodedLength.Statement (.aluEndK) := by
  simp [EncodedLength.Statement, encode, opExtended_eq_mask]

theorem EncodedLength.aluEndX :
    EncodedLength.Statement (.aluEndX) := by
  simp [EncodedLength.Statement, encode, opExtended_eq_mask]

theorem EncodedLength.alu64EndK :
    EncodedLength.Statement (.alu64EndK) := by
  simp [EncodedLength.Statement, encode, opExtended_eq_mask]

theorem EncodedLength.alu64EndX :
    EncodedLength.Statement (.alu64EndX) := by
  simp [EncodedLength.Statement, encode, opExtended_eq_mask]

theorem EncodedLength.jmpJaK (off : OffField) :
    EncodedLength.Statement (.jmpJaK off) := by
  simp [EncodedLength.Statement, encode, opExtended_eq_mask]

theorem EncodedLength.jmpJaX (off : OffField) :
    EncodedLength.Statement (.jmpJaX off) := by
  simp [EncodedLength.Statement, encode, opExtended_eq_mask]

theorem EncodedLength.jmp32JaK (off : OffField) :
    EncodedLength.Statement (.jmp32JaK off) := by
  simp [EncodedLength.Statement, encode, opExtended_eq_mask]

theorem EncodedLength.jmp32JaX (off : OffField) :
    EncodedLength.Statement (.jmp32JaX off) := by
  simp [EncodedLength.Statement, encode, opExtended_eq_mask]

theorem EncodedLength.jmpJeqK (dst : RegField) (off : OffField) (imm : ImmField) :
    EncodedLength.Statement (.jmpJeqK dst off imm) := by
  simp [EncodedLength.Statement, encode, opExtended_eq_mask]

theorem EncodedLength.jmpJeqX (dst : RegField) (src : RegField) (off : OffField) :
    EncodedLength.Statement (.jmpJeqX dst src off) := by
  simp [EncodedLength.Statement, encode, opExtended_eq_mask]

theorem EncodedLength.jmp32JeqK (dst : RegField) (off : OffField) (imm : ImmField) :
    EncodedLength.Statement (.jmp32JeqK dst off imm) := by
  simp [EncodedLength.Statement, encode, opExtended_eq_mask]

theorem EncodedLength.jmp32JeqX (dst : RegField) (src : RegField) (off : OffField) :
    EncodedLength.Statement (.jmp32JeqX dst src off) := by
  simp [EncodedLength.Statement, encode, opExtended_eq_mask]

theorem EncodedLength.jmpJgtK (dst : RegField) (off : OffField) (imm : ImmField) :
    EncodedLength.Statement (.jmpJgtK dst off imm) := by
  simp [EncodedLength.Statement, encode, opExtended_eq_mask]

theorem EncodedLength.jmpJgtX (dst : RegField) (src : RegField) (off : OffField) :
    EncodedLength.Statement (.jmpJgtX dst src off) := by
  simp [EncodedLength.Statement, encode, opExtended_eq_mask]

theorem EncodedLength.jmp32JgtK (dst : RegField) (off : OffField) (imm : ImmField) :
    EncodedLength.Statement (.jmp32JgtK dst off imm) := by
  simp [EncodedLength.Statement, encode, opExtended_eq_mask]

theorem EncodedLength.jmp32JgtX (dst : RegField) (src : RegField) (off : OffField) :
    EncodedLength.Statement (.jmp32JgtX dst src off) := by
  simp [EncodedLength.Statement, encode, opExtended_eq_mask]

theorem EncodedLength.jmpJgeK (dst : RegField) (off : OffField) (imm : ImmField) :
    EncodedLength.Statement (.jmpJgeK dst off imm) := by
  simp [EncodedLength.Statement, encode, opExtended_eq_mask]

theorem EncodedLength.jmpJgeX (dst : RegField) (src : RegField) (off : OffField) :
    EncodedLength.Statement (.jmpJgeX dst src off) := by
  simp [EncodedLength.Statement, encode, opExtended_eq_mask]

theorem EncodedLength.jmp32JgeK (dst : RegField) (off : OffField) (imm : ImmField) :
    EncodedLength.Statement (.jmp32JgeK dst off imm) := by
  simp [EncodedLength.Statement, encode, opExtended_eq_mask]

theorem EncodedLength.jmp32JgeX (dst : RegField) (src : RegField) (off : OffField) :
    EncodedLength.Statement (.jmp32JgeX dst src off) := by
  simp [EncodedLength.Statement, encode, opExtended_eq_mask]

theorem EncodedLength.jmpJsetK (dst : RegField) (off : OffField) (imm : ImmField) :
    EncodedLength.Statement (.jmpJsetK dst off imm) := by
  simp [EncodedLength.Statement, encode, opExtended_eq_mask]

theorem EncodedLength.jmpJsetX (dst : RegField) (src : RegField) (off : OffField) :
    EncodedLength.Statement (.jmpJsetX dst src off) := by
  simp [EncodedLength.Statement, encode, opExtended_eq_mask]

theorem EncodedLength.jmp32JsetK (dst : RegField) (off : OffField) (imm : ImmField) :
    EncodedLength.Statement (.jmp32JsetK dst off imm) := by
  simp [EncodedLength.Statement, encode, opExtended_eq_mask]

theorem EncodedLength.jmp32JsetX (dst : RegField) (src : RegField) (off : OffField) :
    EncodedLength.Statement (.jmp32JsetX dst src off) := by
  simp [EncodedLength.Statement, encode, opExtended_eq_mask]

theorem EncodedLength.jmpJneK (dst : RegField) (off : OffField) (imm : ImmField) :
    EncodedLength.Statement (.jmpJneK dst off imm) := by
  simp [EncodedLength.Statement, encode, opExtended_eq_mask]

theorem EncodedLength.jmpJneX (dst : RegField) (src : RegField) (off : OffField) :
    EncodedLength.Statement (.jmpJneX dst src off) := by
  simp [EncodedLength.Statement, encode, opExtended_eq_mask]

theorem EncodedLength.jmp32JneK (dst : RegField) (off : OffField) (imm : ImmField) :
    EncodedLength.Statement (.jmp32JneK dst off imm) := by
  simp [EncodedLength.Statement, encode, opExtended_eq_mask]

theorem EncodedLength.jmp32JneX (dst : RegField) (src : RegField) (off : OffField) :
    EncodedLength.Statement (.jmp32JneX dst src off) := by
  simp [EncodedLength.Statement, encode, opExtended_eq_mask]

theorem EncodedLength.jmpJsgtK (dst : RegField) (off : OffField) (imm : ImmField) :
    EncodedLength.Statement (.jmpJsgtK dst off imm) := by
  simp [EncodedLength.Statement, encode, opExtended_eq_mask]

theorem EncodedLength.jmpJsgtX (dst : RegField) (src : RegField) (off : OffField) :
    EncodedLength.Statement (.jmpJsgtX dst src off) := by
  simp [EncodedLength.Statement, encode, opExtended_eq_mask]

theorem EncodedLength.jmp32JsgtK (dst : RegField) (off : OffField) (imm : ImmField) :
    EncodedLength.Statement (.jmp32JsgtK dst off imm) := by
  simp [EncodedLength.Statement, encode, opExtended_eq_mask]

theorem EncodedLength.jmp32JsgtX (dst : RegField) (src : RegField) (off : OffField) :
    EncodedLength.Statement (.jmp32JsgtX dst src off) := by
  simp [EncodedLength.Statement, encode, opExtended_eq_mask]

theorem EncodedLength.jmpJsgeK (dst : RegField) (off : OffField) (imm : ImmField) :
    EncodedLength.Statement (.jmpJsgeK dst off imm) := by
  simp [EncodedLength.Statement, encode, opExtended_eq_mask]

theorem EncodedLength.jmpJsgeX (dst : RegField) (src : RegField) (off : OffField) :
    EncodedLength.Statement (.jmpJsgeX dst src off) := by
  simp [EncodedLength.Statement, encode, opExtended_eq_mask]

theorem EncodedLength.jmp32JsgeK (dst : RegField) (off : OffField) (imm : ImmField) :
    EncodedLength.Statement (.jmp32JsgeK dst off imm) := by
  simp [EncodedLength.Statement, encode, opExtended_eq_mask]

theorem EncodedLength.jmp32JsgeX (dst : RegField) (src : RegField) (off : OffField) :
    EncodedLength.Statement (.jmp32JsgeX dst src off) := by
  simp [EncodedLength.Statement, encode, opExtended_eq_mask]

theorem EncodedLength.jmpCallKSel0 (imm : ImmField) :
    EncodedLength.Statement (.jmpCallKSel0 imm) := by
  simp [EncodedLength.Statement, encode, opExtended_eq_mask]

theorem EncodedLength.jmpCallKSel1 (off : OffField) :
    EncodedLength.Statement (.jmpCallKSel1 off) := by
  simp [EncodedLength.Statement, encode, opExtended_eq_mask]

theorem EncodedLength.jmpCallKSel2 (imm : ImmField) :
    EncodedLength.Statement (.jmpCallKSel2 imm) := by
  simp [EncodedLength.Statement, encode, opExtended_eq_mask]

theorem EncodedLength.jmpCallXSel0 (imm : ImmField) :
    EncodedLength.Statement (.jmpCallXSel0 imm) := by
  simp [EncodedLength.Statement, encode, opExtended_eq_mask]

theorem EncodedLength.jmpCallXSel1 (off : OffField) :
    EncodedLength.Statement (.jmpCallXSel1 off) := by
  simp [EncodedLength.Statement, encode, opExtended_eq_mask]

theorem EncodedLength.jmpCallXSel2 (imm : ImmField) :
    EncodedLength.Statement (.jmpCallXSel2 imm) := by
  simp [EncodedLength.Statement, encode, opExtended_eq_mask]

theorem EncodedLength.jmp32CallKSel0 (imm : ImmField) :
    EncodedLength.Statement (.jmp32CallKSel0 imm) := by
  simp [EncodedLength.Statement, encode, opExtended_eq_mask]

theorem EncodedLength.jmp32CallKSel1 (off : OffField) :
    EncodedLength.Statement (.jmp32CallKSel1 off) := by
  simp [EncodedLength.Statement, encode, opExtended_eq_mask]

theorem EncodedLength.jmp32CallKSel2 (imm : ImmField) :
    EncodedLength.Statement (.jmp32CallKSel2 imm) := by
  simp [EncodedLength.Statement, encode, opExtended_eq_mask]

theorem EncodedLength.jmp32CallXSel0 (imm : ImmField) :
    EncodedLength.Statement (.jmp32CallXSel0 imm) := by
  simp [EncodedLength.Statement, encode, opExtended_eq_mask]

theorem EncodedLength.jmp32CallXSel1 (off : OffField) :
    EncodedLength.Statement (.jmp32CallXSel1 off) := by
  simp [EncodedLength.Statement, encode, opExtended_eq_mask]

theorem EncodedLength.jmp32CallXSel2 (imm : ImmField) :
    EncodedLength.Statement (.jmp32CallXSel2 imm) := by
  simp [EncodedLength.Statement, encode, opExtended_eq_mask]

theorem EncodedLength.jmpExitK :
    EncodedLength.Statement (.jmpExitK) := by
  simp [EncodedLength.Statement, encode, opExtended_eq_mask]

theorem EncodedLength.jmpExitX :
    EncodedLength.Statement (.jmpExitX) := by
  simp [EncodedLength.Statement, encode, opExtended_eq_mask]

theorem EncodedLength.jmp32ExitK :
    EncodedLength.Statement (.jmp32ExitK) := by
  simp [EncodedLength.Statement, encode, opExtended_eq_mask]

theorem EncodedLength.jmp32ExitX :
    EncodedLength.Statement (.jmp32ExitX) := by
  simp [EncodedLength.Statement, encode, opExtended_eq_mask]

theorem EncodedLength.jmpJltK (dst : RegField) (off : OffField) (imm : ImmField) :
    EncodedLength.Statement (.jmpJltK dst off imm) := by
  simp [EncodedLength.Statement, encode, opExtended_eq_mask]

theorem EncodedLength.jmpJltX (dst : RegField) (src : RegField) (off : OffField) :
    EncodedLength.Statement (.jmpJltX dst src off) := by
  simp [EncodedLength.Statement, encode, opExtended_eq_mask]

theorem EncodedLength.jmp32JltK (dst : RegField) (off : OffField) (imm : ImmField) :
    EncodedLength.Statement (.jmp32JltK dst off imm) := by
  simp [EncodedLength.Statement, encode, opExtended_eq_mask]

theorem EncodedLength.jmp32JltX (dst : RegField) (src : RegField) (off : OffField) :
    EncodedLength.Statement (.jmp32JltX dst src off) := by
  simp [EncodedLength.Statement, encode, opExtended_eq_mask]

theorem EncodedLength.jmpJleK (dst : RegField) (off : OffField) (imm : ImmField) :
    EncodedLength.Statement (.jmpJleK dst off imm) := by
  simp [EncodedLength.Statement, encode, opExtended_eq_mask]

theorem EncodedLength.jmpJleX (dst : RegField) (src : RegField) (off : OffField) :
    EncodedLength.Statement (.jmpJleX dst src off) := by
  simp [EncodedLength.Statement, encode, opExtended_eq_mask]

theorem EncodedLength.jmp32JleK (dst : RegField) (off : OffField) (imm : ImmField) :
    EncodedLength.Statement (.jmp32JleK dst off imm) := by
  simp [EncodedLength.Statement, encode, opExtended_eq_mask]

theorem EncodedLength.jmp32JleX (dst : RegField) (src : RegField) (off : OffField) :
    EncodedLength.Statement (.jmp32JleX dst src off) := by
  simp [EncodedLength.Statement, encode, opExtended_eq_mask]

theorem EncodedLength.jmpJsltK (dst : RegField) (off : OffField) (imm : ImmField) :
    EncodedLength.Statement (.jmpJsltK dst off imm) := by
  simp [EncodedLength.Statement, encode, opExtended_eq_mask]

theorem EncodedLength.jmpJsltX (dst : RegField) (src : RegField) (off : OffField) :
    EncodedLength.Statement (.jmpJsltX dst src off) := by
  simp [EncodedLength.Statement, encode, opExtended_eq_mask]

theorem EncodedLength.jmp32JsltK (dst : RegField) (off : OffField) (imm : ImmField) :
    EncodedLength.Statement (.jmp32JsltK dst off imm) := by
  simp [EncodedLength.Statement, encode, opExtended_eq_mask]

theorem EncodedLength.jmp32JsltX (dst : RegField) (src : RegField) (off : OffField) :
    EncodedLength.Statement (.jmp32JsltX dst src off) := by
  simp [EncodedLength.Statement, encode, opExtended_eq_mask]

theorem EncodedLength.jmpJsleK (dst : RegField) (off : OffField) (imm : ImmField) :
    EncodedLength.Statement (.jmpJsleK dst off imm) := by
  simp [EncodedLength.Statement, encode, opExtended_eq_mask]

theorem EncodedLength.jmpJsleX (dst : RegField) (src : RegField) (off : OffField) :
    EncodedLength.Statement (.jmpJsleX dst src off) := by
  simp [EncodedLength.Statement, encode, opExtended_eq_mask]

theorem EncodedLength.jmp32JsleK (dst : RegField) (off : OffField) (imm : ImmField) :
    EncodedLength.Statement (.jmp32JsleK dst off imm) := by
  simp [EncodedLength.Statement, encode, opExtended_eq_mask]

theorem EncodedLength.jmp32JsleX (dst : RegField) (src : RegField) (off : OffField) :
    EncodedLength.Statement (.jmp32JsleX dst src off) := by
  simp [EncodedLength.Statement, encode, opExtended_eq_mask]

theorem EncodedLength.ldImmLiteral64 (cls : LSClass) (size : Size) (dst : RegField) (imm : ImmField) (nextImm : ImmField) :
    EncodedLength.Statement (.ldImmLiteral64 cls size dst imm nextImm) := by
  simp [EncodedLength.Statement, encode]

theorem EncodedLength.ldImmMapByFd (cls : LSClass) (size : Size) (dst : RegField) (imm : ImmField) (nextImm : ImmField) :
    EncodedLength.Statement (.ldImmMapByFd cls size dst imm nextImm) := by
  simp [EncodedLength.Statement, encode]

theorem EncodedLength.ldImmMapValByFd (cls : LSClass) (size : Size) (dst : RegField) (imm : ImmField) (nextImm : ImmField) :
    EncodedLength.Statement (.ldImmMapValByFd cls size dst imm nextImm) := by
  simp [EncodedLength.Statement, encode]

theorem EncodedLength.ldImmVarAddr (cls : LSClass) (size : Size) (dst : RegField) (imm : ImmField) (nextImm : ImmField) :
    EncodedLength.Statement (.ldImmVarAddr cls size dst imm nextImm) := by
  simp [EncodedLength.Statement, encode]

theorem EncodedLength.ldImmCodeAddr (cls : LSClass) (size : Size) (dst : RegField) (imm : ImmField) (nextImm : ImmField) :
    EncodedLength.Statement (.ldImmCodeAddr cls size dst imm nextImm) := by
  simp [EncodedLength.Statement, encode]

theorem EncodedLength.ldImmMapByIdx (cls : LSClass) (size : Size) (dst : RegField) (imm : ImmField) (nextImm : ImmField) :
    EncodedLength.Statement (.ldImmMapByIdx cls size dst imm nextImm) := by
  simp [EncodedLength.Statement, encode]

theorem EncodedLength.ldImmMapValByIdx (cls : LSClass) (size : Size) (dst : RegField) (imm : ImmField) (nextImm : ImmField) :
    EncodedLength.Statement (.ldImmMapValByIdx cls size dst imm nextImm) := by
  simp [EncodedLength.Statement, encode]

theorem EncodedLength.ldAbsW :
    EncodedLength.Statement (.ldAbsW) := by
  simp [EncodedLength.Statement, encode, opExtended_eq_mask]

theorem EncodedLength.ldxAbsW :
    EncodedLength.Statement (.ldxAbsW) := by
  simp [EncodedLength.Statement, encode, opExtended_eq_mask]

theorem EncodedLength.stAbsW :
    EncodedLength.Statement (.stAbsW) := by
  simp [EncodedLength.Statement, encode, opExtended_eq_mask]

theorem EncodedLength.stxAbsW :
    EncodedLength.Statement (.stxAbsW) := by
  simp [EncodedLength.Statement, encode, opExtended_eq_mask]

theorem EncodedLength.ldAbsH :
    EncodedLength.Statement (.ldAbsH) := by
  simp [EncodedLength.Statement, encode, opExtended_eq_mask]

theorem EncodedLength.ldxAbsH :
    EncodedLength.Statement (.ldxAbsH) := by
  simp [EncodedLength.Statement, encode, opExtended_eq_mask]

theorem EncodedLength.stAbsH :
    EncodedLength.Statement (.stAbsH) := by
  simp [EncodedLength.Statement, encode, opExtended_eq_mask]

theorem EncodedLength.stxAbsH :
    EncodedLength.Statement (.stxAbsH) := by
  simp [EncodedLength.Statement, encode, opExtended_eq_mask]

theorem EncodedLength.ldAbsB :
    EncodedLength.Statement (.ldAbsB) := by
  simp [EncodedLength.Statement, encode, opExtended_eq_mask]

theorem EncodedLength.ldxAbsB :
    EncodedLength.Statement (.ldxAbsB) := by
  simp [EncodedLength.Statement, encode, opExtended_eq_mask]

theorem EncodedLength.stAbsB :
    EncodedLength.Statement (.stAbsB) := by
  simp [EncodedLength.Statement, encode, opExtended_eq_mask]

theorem EncodedLength.stxAbsB :
    EncodedLength.Statement (.stxAbsB) := by
  simp [EncodedLength.Statement, encode, opExtended_eq_mask]

theorem EncodedLength.ldAbsDw :
    EncodedLength.Statement (.ldAbsDw) := by
  simp [EncodedLength.Statement, encode, opExtended_eq_mask]

theorem EncodedLength.ldxAbsDw :
    EncodedLength.Statement (.ldxAbsDw) := by
  simp [EncodedLength.Statement, encode, opExtended_eq_mask]

theorem EncodedLength.stAbsDw :
    EncodedLength.Statement (.stAbsDw) := by
  simp [EncodedLength.Statement, encode, opExtended_eq_mask]

theorem EncodedLength.stxAbsDw :
    EncodedLength.Statement (.stxAbsDw) := by
  simp [EncodedLength.Statement, encode, opExtended_eq_mask]

theorem EncodedLength.ldIndW :
    EncodedLength.Statement (.ldIndW) := by
  simp [EncodedLength.Statement, encode, opExtended_eq_mask]

theorem EncodedLength.ldxIndW :
    EncodedLength.Statement (.ldxIndW) := by
  simp [EncodedLength.Statement, encode, opExtended_eq_mask]

theorem EncodedLength.stIndW :
    EncodedLength.Statement (.stIndW) := by
  simp [EncodedLength.Statement, encode, opExtended_eq_mask]

theorem EncodedLength.stxIndW :
    EncodedLength.Statement (.stxIndW) := by
  simp [EncodedLength.Statement, encode, opExtended_eq_mask]

theorem EncodedLength.ldIndH :
    EncodedLength.Statement (.ldIndH) := by
  simp [EncodedLength.Statement, encode, opExtended_eq_mask]

theorem EncodedLength.ldxIndH :
    EncodedLength.Statement (.ldxIndH) := by
  simp [EncodedLength.Statement, encode, opExtended_eq_mask]

theorem EncodedLength.stIndH :
    EncodedLength.Statement (.stIndH) := by
  simp [EncodedLength.Statement, encode, opExtended_eq_mask]

theorem EncodedLength.stxIndH :
    EncodedLength.Statement (.stxIndH) := by
  simp [EncodedLength.Statement, encode, opExtended_eq_mask]

theorem EncodedLength.ldIndB :
    EncodedLength.Statement (.ldIndB) := by
  simp [EncodedLength.Statement, encode, opExtended_eq_mask]

theorem EncodedLength.ldxIndB :
    EncodedLength.Statement (.ldxIndB) := by
  simp [EncodedLength.Statement, encode, opExtended_eq_mask]

theorem EncodedLength.stIndB :
    EncodedLength.Statement (.stIndB) := by
  simp [EncodedLength.Statement, encode, opExtended_eq_mask]

theorem EncodedLength.stxIndB :
    EncodedLength.Statement (.stxIndB) := by
  simp [EncodedLength.Statement, encode, opExtended_eq_mask]

theorem EncodedLength.ldIndDw :
    EncodedLength.Statement (.ldIndDw) := by
  simp [EncodedLength.Statement, encode, opExtended_eq_mask]

theorem EncodedLength.ldxIndDw :
    EncodedLength.Statement (.ldxIndDw) := by
  simp [EncodedLength.Statement, encode, opExtended_eq_mask]

theorem EncodedLength.stIndDw :
    EncodedLength.Statement (.stIndDw) := by
  simp [EncodedLength.Statement, encode, opExtended_eq_mask]

theorem EncodedLength.stxIndDw :
    EncodedLength.Statement (.stxIndDw) := by
  simp [EncodedLength.Statement, encode, opExtended_eq_mask]

theorem EncodedLength.ldxMemW (dst : RegField) (src : RegField) (off : OffField) :
    EncodedLength.Statement (.ldxMemW dst src off) := by
  simp [EncodedLength.Statement, encode, opExtended_eq_mask]

theorem EncodedLength.stMemW (dst : RegField) (off : OffField) (imm : ImmField) :
    EncodedLength.Statement (.stMemW dst off imm) := by
  simp [EncodedLength.Statement, encode, opExtended_eq_mask]

theorem EncodedLength.stxMemW (dst : RegField) (src : RegField) (off : OffField) :
    EncodedLength.Statement (.stxMemW dst src off) := by
  simp [EncodedLength.Statement, encode, opExtended_eq_mask]

theorem EncodedLength.ldxMemH (dst : RegField) (src : RegField) (off : OffField) :
    EncodedLength.Statement (.ldxMemH dst src off) := by
  simp [EncodedLength.Statement, encode, opExtended_eq_mask]

theorem EncodedLength.stMemH (dst : RegField) (off : OffField) (imm : ImmField) :
    EncodedLength.Statement (.stMemH dst off imm) := by
  simp [EncodedLength.Statement, encode, opExtended_eq_mask]

theorem EncodedLength.stxMemH (dst : RegField) (src : RegField) (off : OffField) :
    EncodedLength.Statement (.stxMemH dst src off) := by
  simp [EncodedLength.Statement, encode, opExtended_eq_mask]

theorem EncodedLength.ldxMemB (dst : RegField) (src : RegField) (off : OffField) :
    EncodedLength.Statement (.ldxMemB dst src off) := by
  simp [EncodedLength.Statement, encode, opExtended_eq_mask]

theorem EncodedLength.stMemB (dst : RegField) (off : OffField) (imm : ImmField) :
    EncodedLength.Statement (.stMemB dst off imm) := by
  simp [EncodedLength.Statement, encode, opExtended_eq_mask]

theorem EncodedLength.stxMemB (dst : RegField) (src : RegField) (off : OffField) :
    EncodedLength.Statement (.stxMemB dst src off) := by
  simp [EncodedLength.Statement, encode, opExtended_eq_mask]

theorem EncodedLength.ldxMemDw (dst : RegField) (src : RegField) (off : OffField) :
    EncodedLength.Statement (.ldxMemDw dst src off) := by
  simp [EncodedLength.Statement, encode, opExtended_eq_mask]

theorem EncodedLength.stMemDw (dst : RegField) (off : OffField) (imm : ImmField) :
    EncodedLength.Statement (.stMemDw dst off imm) := by
  simp [EncodedLength.Statement, encode, opExtended_eq_mask]

theorem EncodedLength.stxMemDw (dst : RegField) (src : RegField) (off : OffField) :
    EncodedLength.Statement (.stxMemDw dst src off) := by
  simp [EncodedLength.Statement, encode, opExtended_eq_mask]

theorem EncodedLength.ldxMemsxW (dst : RegField) (src : RegField) (off : OffField) :
    EncodedLength.Statement (.ldxMemsxW dst src off) := by
  simp [EncodedLength.Statement, encode, opExtended_eq_mask]

theorem EncodedLength.ldxMemsxH (dst : RegField) (src : RegField) (off : OffField) :
    EncodedLength.Statement (.ldxMemsxH dst src off) := by
  simp [EncodedLength.Statement, encode, opExtended_eq_mask]

theorem EncodedLength.ldxMemsxB (dst : RegField) (src : RegField) (off : OffField) :
    EncodedLength.Statement (.ldxMemsxB dst src off) := by
  simp [EncodedLength.Statement, encode, opExtended_eq_mask]

theorem EncodedLength.ldxMemsxDw (dst : RegField) (src : RegField) (off : OffField) :
    EncodedLength.Statement (.ldxMemsxDw dst src off) := by
  simp [EncodedLength.Statement, encode, opExtended_eq_mask]

theorem EncodedLength.stxAtomicWAdd (dst : RegField) (src : RegField) (off : OffField) :
    EncodedLength.Statement (.stxAtomicWAdd dst src off) := by
  simp [EncodedLength.Statement, encode, opExtended_eq_mask]

theorem EncodedLength.stxAtomicWOr (dst : RegField) (src : RegField) (off : OffField) :
    EncodedLength.Statement (.stxAtomicWOr dst src off) := by
  simp [EncodedLength.Statement, encode, opExtended_eq_mask]

theorem EncodedLength.stxAtomicWAnd (dst : RegField) (src : RegField) (off : OffField) :
    EncodedLength.Statement (.stxAtomicWAnd dst src off) := by
  simp [EncodedLength.Statement, encode, opExtended_eq_mask]

theorem EncodedLength.stxAtomicWXor (dst : RegField) (src : RegField) (off : OffField) :
    EncodedLength.Statement (.stxAtomicWXor dst src off) := by
  simp [EncodedLength.Statement, encode, opExtended_eq_mask]

theorem EncodedLength.stxAtomicWFetchAdd :
    EncodedLength.Statement (.stxAtomicWFetchAdd) := by
  simp [EncodedLength.Statement, encode, opExtended_eq_mask]

theorem EncodedLength.stxAtomicWFetchOr :
    EncodedLength.Statement (.stxAtomicWFetchOr) := by
  simp [EncodedLength.Statement, encode, opExtended_eq_mask]

theorem EncodedLength.stxAtomicWFetchAnd :
    EncodedLength.Statement (.stxAtomicWFetchAnd) := by
  simp [EncodedLength.Statement, encode, opExtended_eq_mask]

theorem EncodedLength.stxAtomicWFetchXor :
    EncodedLength.Statement (.stxAtomicWFetchXor) := by
  simp [EncodedLength.Statement, encode, opExtended_eq_mask]

theorem EncodedLength.stxAtomicWXchg (fetch : Bool) :
    EncodedLength.Statement (.stxAtomicWXchg fetch) := by
  simp [EncodedLength.Statement, encode, opExtended_eq_mask]

theorem EncodedLength.stxAtomicWCmpxchg (fetch : Bool) :
    EncodedLength.Statement (.stxAtomicWCmpxchg fetch) := by
  simp [EncodedLength.Statement, encode, opExtended_eq_mask]

theorem EncodedLength.stxAtomicDwAdd (dst : RegField) (src : RegField) (off : OffField) :
    EncodedLength.Statement (.stxAtomicDwAdd dst src off) := by
  simp [EncodedLength.Statement, encode, opExtended_eq_mask]

theorem EncodedLength.stxAtomicDwOr (dst : RegField) (src : RegField) (off : OffField) :
    EncodedLength.Statement (.stxAtomicDwOr dst src off) := by
  simp [EncodedLength.Statement, encode, opExtended_eq_mask]

theorem EncodedLength.stxAtomicDwAnd (dst : RegField) (src : RegField) (off : OffField) :
    EncodedLength.Statement (.stxAtomicDwAnd dst src off) := by
  simp [EncodedLength.Statement, encode, opExtended_eq_mask]

theorem EncodedLength.stxAtomicDwXor (dst : RegField) (src : RegField) (off : OffField) :
    EncodedLength.Statement (.stxAtomicDwXor dst src off) := by
  simp [EncodedLength.Statement, encode, opExtended_eq_mask]

theorem EncodedLength.stxAtomicDwFetchAdd :
    EncodedLength.Statement (.stxAtomicDwFetchAdd) := by
  simp [EncodedLength.Statement, encode, opExtended_eq_mask]

theorem EncodedLength.stxAtomicDwFetchOr :
    EncodedLength.Statement (.stxAtomicDwFetchOr) := by
  simp [EncodedLength.Statement, encode, opExtended_eq_mask]

theorem EncodedLength.stxAtomicDwFetchAnd :
    EncodedLength.Statement (.stxAtomicDwFetchAnd) := by
  simp [EncodedLength.Statement, encode, opExtended_eq_mask]

theorem EncodedLength.stxAtomicDwFetchXor :
    EncodedLength.Statement (.stxAtomicDwFetchXor) := by
  simp [EncodedLength.Statement, encode, opExtended_eq_mask]

theorem EncodedLength.stxAtomicDwXchg (fetch : Bool) :
    EncodedLength.Statement (.stxAtomicDwXchg fetch) := by
  simp [EncodedLength.Statement, encode, opExtended_eq_mask]

theorem EncodedLength.stxAtomicDwCmpxchg (fetch : Bool) :
    EncodedLength.Statement (.stxAtomicDwCmpxchg fetch) := by
  simp [EncodedLength.Statement, encode, opExtended_eq_mask]

theorem EncodedLength.aluCodeEK :
    EncodedLength.Statement (.aluCodeEK) := by
  simp [EncodedLength.Statement, encode, opExtended_eq_mask]

theorem EncodedLength.aluCodeEX :
    EncodedLength.Statement (.aluCodeEX) := by
  simp [EncodedLength.Statement, encode, opExtended_eq_mask]

theorem EncodedLength.alu64CodeEK :
    EncodedLength.Statement (.alu64CodeEK) := by
  simp [EncodedLength.Statement, encode, opExtended_eq_mask]

theorem EncodedLength.alu64CodeEX :
    EncodedLength.Statement (.alu64CodeEX) := by
  simp [EncodedLength.Statement, encode, opExtended_eq_mask]

theorem EncodedLength.aluCodeFK :
    EncodedLength.Statement (.aluCodeFK) := by
  simp [EncodedLength.Statement, encode, opExtended_eq_mask]

theorem EncodedLength.aluCodeFX :
    EncodedLength.Statement (.aluCodeFX) := by
  simp [EncodedLength.Statement, encode, opExtended_eq_mask]

theorem EncodedLength.alu64CodeFK :
    EncodedLength.Statement (.alu64CodeFK) := by
  simp [EncodedLength.Statement, encode, opExtended_eq_mask]

theorem EncodedLength.alu64CodeFX :
    EncodedLength.Statement (.alu64CodeFX) := by
  simp [EncodedLength.Statement, encode, opExtended_eq_mask]

theorem EncodedLength.jmpCodeEK :
    EncodedLength.Statement (.jmpCodeEK) := by
  simp [EncodedLength.Statement, encode, opExtended_eq_mask]

theorem EncodedLength.jmpCodeEX :
    EncodedLength.Statement (.jmpCodeEX) := by
  simp [EncodedLength.Statement, encode, opExtended_eq_mask]

theorem EncodedLength.jmp32CodeEK :
    EncodedLength.Statement (.jmp32CodeEK) := by
  simp [EncodedLength.Statement, encode, opExtended_eq_mask]

theorem EncodedLength.jmp32CodeEX :
    EncodedLength.Statement (.jmp32CodeEX) := by
  simp [EncodedLength.Statement, encode, opExtended_eq_mask]

theorem EncodedLength.jmpCodeFK :
    EncodedLength.Statement (.jmpCodeFK) := by
  simp [EncodedLength.Statement, encode, opExtended_eq_mask]

theorem EncodedLength.jmpCodeFX :
    EncodedLength.Statement (.jmpCodeFX) := by
  simp [EncodedLength.Statement, encode, opExtended_eq_mask]

theorem EncodedLength.jmp32CodeFK :
    EncodedLength.Statement (.jmp32CodeFK) := by
  simp [EncodedLength.Statement, encode, opExtended_eq_mask]

theorem EncodedLength.jmp32CodeFX :
    EncodedLength.Statement (.jmp32CodeFX) := by
  simp [EncodedLength.Statement, encode, opExtended_eq_mask]

theorem EncodedLength.jmpCallKSelOther (src : RegField) :
    EncodedLength.Statement (.jmpCallKSelOther src) := by
  simp [EncodedLength.Statement, encode, opExtended_eq_mask]

theorem EncodedLength.jmpCallXSelOther (src : RegField) :
    EncodedLength.Statement (.jmpCallXSelOther src) := by
  simp [EncodedLength.Statement, encode, opExtended_eq_mask]

theorem EncodedLength.jmp32CallKSelOther (src : RegField) :
    EncodedLength.Statement (.jmp32CallKSelOther src) := by
  simp [EncodedLength.Statement, encode, opExtended_eq_mask]

theorem EncodedLength.jmp32CallXSelOther (src : RegField) :
    EncodedLength.Statement (.jmp32CallXSelOther src) := by
  simp [EncodedLength.Statement, encode, opExtended_eq_mask]

theorem EncodedLength.ldImmSelOther (cls : LSClass) (size : Size) (src : RegField) (nextImm : ImmField) :
    EncodedLength.Statement (.ldImmSelOther cls size src nextImm) := by
  simp [EncodedLength.Statement, encode]

theorem EncodedLength.ldMemAny (size : Size) :
    EncodedLength.Statement (.ldMemAny size) := by
  simp [EncodedLength.Statement, encode]

theorem EncodedLength.notldxMemsxAny (cls : LSClass) (size : Size) :
    EncodedLength.Statement (.notldxMemsxAny cls size) := by
  simp [EncodedLength.Statement, encode]

theorem EncodedLength.anyAtomicH (cls : LSClass) :
    EncodedLength.Statement (.anyAtomicH cls) := by
  simp [EncodedLength.Statement, encode]

theorem EncodedLength.anyAtomicB (cls : LSClass) :
    EncodedLength.Statement (.anyAtomicB cls) := by
  simp [EncodedLength.Statement, encode]

theorem EncodedLength.stxAtomicWOpOther (imm : ImmField) :
    EncodedLength.Statement (.stxAtomicWOpOther imm) := by
  simp [EncodedLength.Statement, encode, opExtended_eq_mask]

theorem EncodedLength.stxAtomicDwOpOther (imm : ImmField) :
    EncodedLength.Statement (.stxAtomicDwOpOther imm) := by
  simp [EncodedLength.Statement, encode, opExtended_eq_mask]

theorem EncodedLength.notstxAtomicAny (cls : LSClass) (size : Size) :
    EncodedLength.Statement (.notstxAtomicAny cls size) := by
  simp [EncodedLength.Statement, encode]

theorem EncodedLength.anyMode5 (cls : LSClass) (size : Size) :
    EncodedLength.Statement (.anyMode5 cls size) := by
  simp [EncodedLength.Statement, encode]

theorem EncodedLength.anyMode7 (cls : LSClass) (size : Size) :
    EncodedLength.Statement (.anyMode7 cls size) := by
  simp [EncodedLength.Statement, encode]

end Sys2Proof.Laws
end

