-- ==== Sys2Proof/Laws/Run.lean ====
section
/-! SUPPORT. The fetch in a store that the pairing scan made, the number of slots of a decoded instruction, and runs of
several steps: what every statement about a step or a run cites. -/

namespace Sys2Proof.Laws

open Sys2Proof Sys2Proof.Machine

-- The case analyses below are elaborated one after another, in one thread.
set_option Elab.async false

theorem instrSlots_decodeArith (c : ArithClass) (sel : Source) (k : ArithCode) (w : Word) :
    instrSlots (decodeArith c sel k w) = 1 := by
  cases c <;> cases sel <;> cases k <;> first | rfl | (simp only [decodeArith]; split <;> rfl)

theorem instrSlots_decodeJump (c : JumpClass) (sel : Source) (k : JumpCode) (w : Word) :
    instrSlots (decodeJump c sel k w) = 1 := by
  cases c <;> cases sel <;> cases k <;> first | rfl | (simp only [decodeJump]; (repeat' split) <;> rfl)

theorem instrSlots_decodeImm (c : LSClass) (z : Size) (w e : Word) : instrSlots (decodeImm c z w e) = 2 := by
  unfold decodeImm; split <;> rfl

theorem instrSlots_decodeAtomic (c : LSClass) (z : Size) (w : Word) : instrSlots (decodeAtomic c z w) = 1 := by
  cases z <;> cases c <;> first | rfl | (simp only [decodeAtomic, decodeAtomicW, decodeAtomicDw]; (repeat' split) <;> rfl)

theorem instrSlots_decodeLoadStore (c : LSClass) (m : Mode) (z : Size) (w e : Word) :
    instrSlots (decodeLoadStore c m z w e) = if m = .imm then 2 else 1 := by
  cases m
  case imm => exact instrSlots_decodeImm c z w e
  case atomic => exact instrSlots_decodeAtomic c z w
  all_goals (cases z <;> cases c <;> rfl)

/-- A decoded instruction takes two slots exactly when its basic word is extended (R70, R71, R207). -/
theorem instrSlots_decodeWords (w e : Word) : instrSlots (decodeWords w e) = if isExtended w then 2 else 1 := by
  unfold decodeWords isExtended opExtended
  cases toTyped (opcodeOf w) with
  | arithmetic c sel k => exact instrSlots_decodeArith c sel k w
  | jump c sel k => exact instrSlots_decodeJump c sel k w
  | loadStore c m z => rw [instrSlots_decodeLoadStore]; cases m <;> rfl

/-- The instruction that the fetch answers takes as many slots as its head's opcode announces (R207). -/
theorem instrSlots_fetched {m : Memory} {i : Nat} {head : Slot} {ins : Instruction} (h : instrAt m i head = .ok ins) :
    instrSlots ins.decoded = if isExtended head.word then 2 else 1 := by
  rw [Instruction.decoded, instrSlots_decodeWords, (instrAt_ok h).2.1]

/-- From any head on, a tagged store is tagged (R36). -/
theorem tagged_drop (m : Memory) (h : Memory.tagged m = true) (k : Nat)
    (hk : ∀ head, m[k]? = some head → head.isExtSlot = false) : Memory.tagged (m.drop k) = true := by
  induction m using Memory.tagged.induct generalizing k with
  | case1 => simp [Memory.tagged]
  | case2 a =>
    cases k with
    | zero => simpa using h
    | succ n => simp [Memory.tagged]
  | case3 a e rest ih1 ih2 =>
    have hc := tagged_cons h
    cases k with
    | zero => simpa using h
    | succ n =>
      simp only [List.drop_succ_cons]
      cases hx : isExtended a.word with
      | true =>
        simp [hx] at hc
        cases n with
        | zero => have := hk e (by simp); simp_all
        | succ n => exact ih1 hc.2.2 n (fun head hh => hk head (by simpa using hh))
      | false =>
        simp [hx] at hc
        exact ih2 hc.2 n (fun head hh => hk head (by simpa using hh))

/-- The slot at an index and the slots after it. -/
theorem drop_of_getElem? {α : Type} {l : List α} {k : Nat} {a : α} (h : l[k]? = some a) :
    k < l.length ∧ l.drop k = a :: l.drop (k + 1) := by
  have hlt : k < l.length := by
    by_contra hc
    rw [List.getElem?_eq_none (by omega)] at h
    cases h
  refine ⟨hlt, ?_⟩
  rw [List.drop_eq_getElem_cons hlt]
  rw [List.getElem?_eq_getElem hlt] at h
  simp_all

/-- In a state with the invariant the fetch of a slot below `L` always answers an Instruction, and the store after the
instruction's slots is tagged again (R20, R209). -/
theorem fetch_of_inv (s : State) (hI : s.Inv) (head : Slot) (h : s.prog[s.pc.toNat]? = some head) :
    (isExtended head.word = false ∧ instrAt s.prog s.pc.toNat head = .ok ⟨head.word, none, false⟩ ∧
      Memory.tagged (s.prog.drop (s.pc.toNat + 1)) = true) ∨
    (∃ e, isExtended head.word = true ∧ s.prog[s.pc.toNat + 1]? = some e ∧ e.isExtSlot = true ∧
      instrAt s.prog s.pc.toNat head = .ok ⟨head.word, some e.word, true⟩ ∧
      Memory.tagged (s.prog.drop (s.pc.toNat + 2)) = true) := by
  have hw := hI.store
  have hh := hI.head
  simp only [Memory.wf, Bool.and_eq_true] at hw
  simp only [State.atHead, h] at hh
  have ht := tagged_drop _ hw.1 s.pc.toNat (fun hd h' => by simp_all)
  rw [(drop_of_getElem? h).2] at ht
  have hc := tagged_cons ht
  cases hx : isExtended head.word with
  | false => simp [hx] at hc; exact .inl ⟨rfl, by simp [instrAt, hc.1, hx], hc.2⟩
  | true =>
    simp [hx] at hc
    obtain ⟨hf, e, r, hr, he, htr⟩ := hc
    have h1 : s.prog[s.pc.toNat + 1]? = some e := by
      have h0 := congrArg (fun l => l[0]?) hr
      simpa using h0
    refine .inr ⟨e, rfl, h1, he, by simp [instrAt, hf, hx, h1], ?_⟩
    have hd := congrArg (List.drop 1) hr
    simp at hd
    rw [hd]
    exact htr

/-- A tagged store has a head in front, when it has a slot. -/
theorem head_of_tagged_drop {m : Memory} {k : Nat} (h : Memory.tagged (m.drop k) = true) {head : Slot}
    (hk : m[k]? = some head) : head.isExtSlot = false := by
  rw [(drop_of_getElem? hk).2] at h
  exact (tagged_cons h).1

/-- A store in the form is shorter than the program counter can count (R14). -/
theorem length_of_wf {m : Memory} (h : Memory.wf m = true) : m.length < 2 ^ 32 - 1 := by
  simp only [Memory.wf, Bool.and_eq_true, decide_eq_true_eq] at h
  exact h.2

/-- The program counter moved past one slot, or two, below the bound (R14). -/
theorem pc_add_toNat (p : BitVec Config.pcWidth) (b : Bool) (h : p.toNat + 2 < 2 ^ 32) :
    (p + (if b then 2 else 1)).toNat = p.toNat + (if b then 2 else 1) := by
  cases b
  · rw [BitVec.toNat_add]
    show (p.toNat + 1) % 2 ^ 32 = p.toNat + 1
    omega
  · rw [BitVec.toNat_add]
    show (p.toNat + 2) % 2 ^ 32 = p.toNat + 2
    omega

/-- What `NextInstruction` answers, and when (R203): it is the fetch of a step without its action. -/
theorem nextInstruction_cases (s : State) :
    (s.prog[s.pc.toNat]? = none ∧ s.nextInstruction = .ok (.condition .endOfProgram)) ∨
    (∃ head f, s.prog[s.pc.toNat]? = some head ∧ instrAt s.prog s.pc.toNat head = .error f ∧
      s.nextInstruction = .error f) ∨
    (∃ head ins, s.prog[s.pc.toNat]? = some head ∧ instrAt s.prog s.pc.toNat head = .ok ins ∧
      s.nextInstruction = .ok (.instruction ins)) := by
  unfold State.nextInstruction
  cases h : s.prog[s.pc.toNat]? with
  | none => exact .inl ⟨rfl, rfl⟩
  | some head =>
    cases h' : instrAt s.prog s.pc.toNat head with
    | error f => exact .inr (.inl ⟨head, f, rfl, h', by simp [h']⟩)
    | ok ins => exact .inr (.inr ⟨head, ins, rfl, h', by simp [h']⟩)

/-- A step first, then the rest of a run. -/
theorem run_succ {M : Host.Core} {s t : M.State} (h : M.step s = .next t) (k : Nat) : M.run (k + 1) s = M.run k t := by
  rw [Host.Core.run.eq_def]
  simp [h]

end Sys2Proof.Laws
end

