-- ==== Sys2Proof/Tests/Slice0.lean ====
section
/-! SUPPORT. Tests on fixed values. Decoding: for every constructor one word written out from its row of
spec/opcode_table.json and the layout of 30_encoding.md R50 to R54 (bits a row does not read are not 0 there). Steps, lines,
listings and loading: vectors of 95_test_vectors.md, each named. Witnesses: for every statement with hypotheses, a state
and operands that meet them. -/

open Sys2Proof Sys2Proof.Machine

-- The theorems below are elaborated one after another, in one thread.
set_option Elab.async false

namespace Sys2Proof.Tests

/-! ## Ill-formed terms are refused -/

/-- A general DIV or MOD row with `src` = 0 (the row before takes those words). -/
theorem test_wellFormed_refuses_div_mod : ([.aluDivK 1 0 5, .aluDivX 1 0, .alu64DivK 1 0 5, .alu64DivX 1 0,
    .aluModK 1 0 5, .aluModX 1 0, .alu64ModK 1 0 5, .alu64ModX 1 0] : List Instr).all (fun i => !i.wellFormed) = true := by
  decide

/-- A CALL of no form with a selector that has a form. -/
theorem test_wellFormed_refuses_call : ([.jmpCallKSelOther 0, .jmpCallXSelOther 1, .jmp32CallKSelOther 2,
    .jmp32CallXSelOther 2] : List Instr).all (fun i => !i.wellFormed) = true := by decide

/-- An immediate load of no form with selector 6. -/
theorem test_wellFormed_refuses_imm : (Instr.ldImmSelOther .ld .dw 6 0).wellFormed = false := by decide

/-- MEMSX of a wrong class that is LDX; ATOMIC of a wrong class that is STX, or that has a half-word or byte size. -/
theorem test_wellFormed_refuses_class_size : ([.notldxMemsxAny .ldx .w, .notstxAtomicAny .stx .w, .notstxAtomicAny .ld .h,
    .notstxAtomicAny .ld .b] : List Instr).all (fun i => !i.wellFormed) = true := by decide

/-- An atomic word of no operation whose immediate names one. -/
theorem test_wellFormed_refuses_atomic : ([.stxAtomicWOpOther 0x40, .stxAtomicDwOpOther 0xf1] : List Instr).all
    (fun i => !i.wellFormed) = true := by decide

/-! ## Decoding, every constructor -/

/-- Each table word decodes to the instruction beside it, which is well formed. -/
def decodesTo (l : List (Nat × Nat × Instr)) : Bool :=
  l.all (fun t => decide (decodeTableWord t.1 t.2.1 = some t.2.2) && t.2.2.wellFormed)

theorem test_decode_alu_1 : decodesTo [
    (64, 0x0421feff44332211, .aluAddK 1 0x11223344),
    (64, 0x0c74fdff45332211, .aluAddX 4 7),
    (64, 0x07c7fcff46332211, .alu64AddK 7 0x11223346),
    (64, 0x0f1afbff47332211, .alu64AddX 10 1),
    (64, 0x146dfaff48332211, .aluSubK 13 0x11223348),
    (64, 0x1cb0f9ff49332211, .aluSubX 0 11),
    (64, 0x1703f8ff4a332211, .alu64SubK 3 0x1122334a),
    (64, 0x1f56f7ff4b332211, .alu64SubX 6 5),
    (64, 0x24a9f6ff4c332211, .aluMulK 9 0x1122334c),
    (64, 0x2cfcf5ff4d332211, .aluMulX 12 15),
    (64, 0x274ff4ff4e332211, .alu64MulK 15 0x1122334e),
    (64, 0x2f92f3ff4f332211, .alu64MulX 2 9),
    (64, 0x3405f2ff50332211, .aluDivKSrc0 5),
    (64, 0x3438f1ff51332211, .aluDivK 8 3 0x11223351),
    (64, 0x3c0bf0ff52332211, .aluDivXSrc0 11),
    (64, 0x3cdeefff53332211, .aluDivX 14 13),
    (64, 0x3701eeff54332211, .alu64DivKSrc0 1),
    (64, 0x3774edff55332211, .alu64DivK 4 7 0x11223355),
    (64, 0x3f07ecff56332211, .alu64DivXSrc0 7),
    (64, 0x3f1aebff57332211, .alu64DivX 10 1),
    (64, 0x446deaff58332211, .aluOrK 13 0x11223358),
    (64, 0x4cb0e9ff59332211, .aluOrX 0 11),
    (64, 0x4703e8ff5a332211, .alu64OrK 3 0x1122335a),
    (64, 0x4f56e7ff5b332211, .alu64OrX 6 5)] = true := by decide +kernel

theorem test_decode_alu_2 : decodesTo [
    (64, 0x54a9e6ff5c332211, .aluAndK 9 0x1122335c),
    (64, 0x5cfce5ff5d332211, .aluAndX 12 15),
    (64, 0x574fe4ff5e332211, .alu64AndK 15 0x1122335e),
    (64, 0x5f92e3ff5f332211, .alu64AndX 2 9),
    (64, 0x64e5e2ff60332211, .aluLshK 5 0x11223360),
    (64, 0x6c38e1ff61332211, .aluLshX 8 3),
    (64, 0x678be0ff62332211, .alu64LshK 11 0x11223362),
    (64, 0x6fdedfff63332211, .alu64LshX 14 13),
    (64, 0x7421deff64332211, .aluRshK 1 0x11223364),
    (64, 0x7c74ddff65332211, .aluRshX 4 7),
    (64, 0x77c7dcff66332211, .alu64RshK 7 0x11223366),
    (64, 0x7f1adbff67332211, .alu64RshX 10 1),
    (64, 0x846ddaff68332211, .aluNegK 13 6),
    (64, 0x8cb0d9ff69332211, .aluNegX 0 11),
    (64, 0x8703d8ff6a332211, .alu64NegK 3 0),
    (64, 0x8f56d7ff6b332211, .alu64NegX 6 5),
    (64, 0x9409d6ff6c332211, .aluModKSrc0 9),
    (64, 0x94fcd5ff6d332211, .aluModK 12 15 0x1122336d),
    (64, 0x9c0fd4ff6e332211, .aluModXSrc0 15),
    (64, 0x9c92d3ff6f332211, .aluModX 2 9),
    (64, 0x9705d2ff70332211, .alu64ModKSrc0 5),
    (64, 0x9738d1ff71332211, .alu64ModK 8 3 0x11223371),
    (64, 0x9f0bd0ff72332211, .alu64ModXSrc0 11),
    (64, 0x9fdecfff73332211, .alu64ModX 14 13)] = true := by decide +kernel

theorem test_decode_alu_3 : decodesTo [
    (64, 0xa421ceff74332211, .aluXorK 1 0x11223374),
    (64, 0xac74cdff75332211, .aluXorX 4 7),
    (64, 0xa7c7ccff76332211, .alu64XorK 7 0x11223376),
    (64, 0xaf1acbff77332211, .alu64XorX 10 1),
    (64, 0xb46dcaff78332211, .aluMovK 13 0x11223378),
    (64, 0xbcb0c9ff79332211, .aluMovX 0 11),
    (64, 0xb703c8ff7a332211, .alu64MovK 3 0x1122337a),
    (64, 0xbf56c7ff7b332211, .alu64MovX 6 5),
    (64, 0xc4a9c6ff7c332211, .aluArshK 9 0x1122337c),
    (64, 0xccfcc5ff7d332211, .aluArshX 12 15),
    (64, 0xc74fc4ff7e332211, .alu64ArshK 15 0x1122337e),
    (64, 0xcf92c3ff7f332211, .alu64ArshX 2 9),
    (64, 0xd4e5c2ff80332211, .aluEndK),
    (64, 0xdc38c1ff81332211, .aluEndX),
    (64, 0xd78bc0ff82332211, .alu64EndK),
    (64, 0xdfdebfff83332211, .alu64EndX)] = true := by decide +kernel

theorem test_decode_jump_1 : decodesTo [
    (64, 0x0521beff84332211, .jmpJaK 0xffbe),
    (64, 0x0d74bdff85332211, .jmpJaX 0xffbd),
    (64, 0x06c7bcff86332211, .jmp32JaK 0xffbc),
    (64, 0x0e1abbff87332211, .jmp32JaX 0xffbb),
    (64, 0x156dbaff88332211, .jmpJeqK 13 0xffba 0x11223388),
    (64, 0x1db0b9ff89332211, .jmpJeqX 0 11 0xffb9),
    (64, 0x1603b8ff8a332211, .jmp32JeqK 3 0xffb8 0x1122338a),
    (64, 0x1e56b7ff8b332211, .jmp32JeqX 6 5 0xffb7),
    (64, 0x25a9b6ff8c332211, .jmpJgtK 9 0xffb6 0x1122338c),
    (64, 0x2dfcb5ff8d332211, .jmpJgtX 12 15 0xffb5),
    (64, 0x264fb4ff8e332211, .jmp32JgtK 15 0xffb4 0x1122338e),
    (64, 0x2e92b3ff8f332211, .jmp32JgtX 2 9 0xffb3),
    (64, 0x35e5b2ff90332211, .jmpJgeK 5 0xffb2 0x11223390),
    (64, 0x3d38b1ff91332211, .jmpJgeX 8 3 0xffb1),
    (64, 0x368bb0ff92332211, .jmp32JgeK 11 0xffb0 0x11223392),
    (64, 0x3edeafff93332211, .jmp32JgeX 14 13 0xffaf),
    (64, 0x4521aeff94332211, .jmpJsetK 1 0xffae 0x11223394),
    (64, 0x4d74adff95332211, .jmpJsetX 4 7 0xffad),
    (64, 0x46c7acff96332211, .jmp32JsetK 7 0xffac 0x11223396),
    (64, 0x4e1aabff97332211, .jmp32JsetX 10 1 0xffab),
    (64, 0x556daaff98332211, .jmpJneK 13 0xffaa 0x11223398),
    (64, 0x5db0a9ff99332211, .jmpJneX 0 11 0xffa9),
    (64, 0x5603a8ff9a332211, .jmp32JneK 3 0xffa8 0x1122339a),
    (64, 0x5e56a7ff9b332211, .jmp32JneX 6 5 0xffa7)] = true := by decide +kernel

theorem test_decode_jump_2 : decodesTo [
    (64, 0x65a9a6ff9c332211, .jmpJsgtK 9 0xffa6 0x1122339c),
    (64, 0x6dfca5ff9d332211, .jmpJsgtX 12 15 0xffa5),
    (64, 0x664fa4ff9e332211, .jmp32JsgtK 15 0xffa4 0x1122339e),
    (64, 0x6e92a3ff9f332211, .jmp32JsgtX 2 9 0xffa3),
    (64, 0x75e5a2ffa0332211, .jmpJsgeK 5 0xffa2 0x112233a0),
    (64, 0x7d38a1ffa1332211, .jmpJsgeX 8 3 0xffa1),
    (64, 0x768ba0ffa2332211, .jmp32JsgeK 11 0xffa0 0x112233a2),
    (64, 0x7ede9fffa3332211, .jmp32JsgeX 14 13 0xff9f),
    (64, 0x85019effa4332211, .jmpCallKSel0 0x112233a4),
    (64, 0x85149dffa5332211, .jmpCallKSel1 0xff9d),
    (64, 0x85279cffa6332211, .jmpCallKSel2 0x112233a6),
    (64, 0x8d0a9bffa7332211, .jmpCallXSel0 0x112233a7),
    (64, 0x8d1d9affa8332211, .jmpCallXSel1 0xff9a),
    (64, 0x8d2099ffa9332211, .jmpCallXSel2 0x112233a9),
    (64, 0x860398ffaa332211, .jmp32CallKSel0 0x112233aa),
    (64, 0x861697ffab332211, .jmp32CallKSel1 0xff97),
    (64, 0x862996ffac332211, .jmp32CallKSel2 0x112233ac),
    (64, 0x8e0c95ffad332211, .jmp32CallXSel0 0x112233ad),
    (64, 0x8e1f94ffae332211, .jmp32CallXSel1 0xff94),
    (64, 0x8e2293ffaf332211, .jmp32CallXSel2 0x112233af),
    (64, 0x95e592ffb0332211, .jmpExitK),
    (64, 0x9d3891ffb1332211, .jmpExitX),
    (64, 0x968b90ffb2332211, .jmp32ExitK),
    (64, 0x9ede8fffb3332211, .jmp32ExitX)] = true := by decide +kernel

theorem test_decode_jump_3 : decodesTo [
    (64, 0xa5218effb4332211, .jmpJltK 1 0xff8e 0x112233b4),
    (64, 0xad748dffb5332211, .jmpJltX 4 7 0xff8d),
    (64, 0xa6c78cffb6332211, .jmp32JltK 7 0xff8c 0x112233b6),
    (64, 0xae1a8bffb7332211, .jmp32JltX 10 1 0xff8b),
    (64, 0xb56d8affb8332211, .jmpJleK 13 0xff8a 0x112233b8),
    (64, 0xbdb089ffb9332211, .jmpJleX 0 11 0xff89),
    (64, 0xb60388ffba332211, .jmp32JleK 3 0xff88 0x112233ba),
    (64, 0xbe5687ffbb332211, .jmp32JleX 6 5 0xff87),
    (64, 0xc5a986ffbc332211, .jmpJsltK 9 0xff86 0x112233bc),
    (64, 0xcdfc85ffbd332211, .jmpJsltX 12 15 0xff85),
    (64, 0xc64f84ffbe332211, .jmp32JsltK 15 0xff84 0x112233be),
    (64, 0xce9283ffbf332211, .jmp32JsltX 2 9 0xff83),
    (64, 0xd5e582ffc0332211, .jmpJsleK 5 0xff82 0x112233c0),
    (64, 0xdd3881ffc1332211, .jmpJsleX 8 3 0xff81),
    (64, 0xd68b80ffc2332211, .jmp32JsleK 11 0xff80 0x112233c2),
    (64, 0xdede7fffc3332211, .jmp32JsleX 14 13 0xff7f)] = true := by decide +kernel

theorem test_decode_load_store_1 : decodesTo [
    (128, 0x5a5a5a5a8100008018017effc4332211, .ldImmLiteral64 .ld .dw 1 0x112233c4 0x80000081),
    (128, 0x5a5a5a5a8200008000147dffc5332211, .ldImmMapByFd .ld .w 4 0x112233c5 0x80000082),
    (128, 0x5a5a5a5a830000800b277cffc6332211, .ldImmMapValByFd .stx .h 7 0x112233c6 0x80000083),
    (128, 0x5a5a5a5a84000080103a7bffc7332211, .ldImmVarAddr .ld .b 10 0x112233c7 0x80000084),
    (128, 0x5a5a5a5a85000080034d7affc8332211, .ldImmCodeAddr .stx .w 13 0x112233c8 0x80000085),
    (128, 0x5a5a5a5a86000080125079ffc9332211, .ldImmMapByIdx .st .b 0 0x112233c9 0x80000086),
    (128, 0x5a5a5a5a87000080096378ffca332211, .ldImmMapValByIdx .ldx .h 3 0x112233ca 0x80000087),
    (64, 0x205677ffcb332211, .ldAbsW),
    (64, 0x21a976ffcc332211, .ldxAbsW),
    (64, 0x22fc75ffcd332211, .stAbsW),
    (64, 0x234f74ffce332211, .stxAbsW),
    (64, 0x289273ffcf332211, .ldAbsH),
    (64, 0x29e572ffd0332211, .ldxAbsH),
    (64, 0x2a3871ffd1332211, .stAbsH),
    (64, 0x2b8b70ffd2332211, .stxAbsH),
    (64, 0x30de6fffd3332211, .ldAbsB),
    (64, 0x31216effd4332211, .ldxAbsB),
    (64, 0x32746dffd5332211, .stAbsB),
    (64, 0x33c76cffd6332211, .stxAbsB),
    (64, 0x381a6bffd7332211, .ldAbsDw),
    (64, 0x396d6affd8332211, .ldxAbsDw),
    (64, 0x3ab069ffd9332211, .stAbsDw),
    (64, 0x3b0368ffda332211, .stxAbsDw),
    (64, 0x405667ffdb332211, .ldIndW)] = true := by decide +kernel

theorem test_decode_load_store_2 : decodesTo [
    (64, 0x41a966ffdc332211, .ldxIndW),
    (64, 0x42fc65ffdd332211, .stIndW),
    (64, 0x434f64ffde332211, .stxIndW),
    (64, 0x489263ffdf332211, .ldIndH),
    (64, 0x49e562ffe0332211, .ldxIndH),
    (64, 0x4a3861ffe1332211, .stIndH),
    (64, 0x4b8b60ffe2332211, .stxIndH),
    (64, 0x50de5fffe3332211, .ldIndB),
    (64, 0x51215effe4332211, .ldxIndB),
    (64, 0x52745dffe5332211, .stIndB),
    (64, 0x53c75cffe6332211, .stxIndB),
    (64, 0x581a5bffe7332211, .ldIndDw),
    (64, 0x596d5affe8332211, .ldxIndDw),
    (64, 0x5ab059ffe9332211, .stIndDw),
    (64, 0x5b0358ffea332211, .stxIndDw),
    (64, 0x615657ffeb332211, .ldxMemW 6 5 0xff57),
    (64, 0x62a956ffec332211, .stMemW 9 0xff56 0x112233ec),
    (64, 0x63fc55ffed332211, .stxMemW 12 15 0xff55),
    (64, 0x694f54ffee332211, .ldxMemH 15 4 0xff54),
    (64, 0x6a9253ffef332211, .stMemH 2 0xff53 0x112233ef),
    (64, 0x6be552fff0332211, .stxMemH 5 14 0xff52),
    (64, 0x713851fff1332211, .ldxMemB 8 3 0xff51),
    (64, 0x728b50fff2332211, .stMemB 11 0xff50 0x112233f2),
    (64, 0x73de4ffff3332211, .stxMemB 14 13 0xff4f)] = true := by decide +kernel

theorem test_decode_load_store_3 : decodesTo [
    (64, 0x79214efff4332211, .ldxMemDw 1 2 0xff4e),
    (64, 0x7a744dfff5332211, .stMemDw 4 0xff4d 0x112233f5),
    (64, 0x7bc74cfff6332211, .stxMemDw 7 12 0xff4c),
    (64, 0x811a4bfff7332211, .ldxMemsxW 10 1 0xff4b),
    (64, 0x896d4afff8332211, .ldxMemsxH 13 6 0xff4a),
    (64, 0x91b049fff9332211, .ldxMemsxB 0 11 0xff49),
    (64, 0x990348fffa332211, .ldxMemsxDw 3 0 0xff48),
    (64, 0xc35647ff00000000, .stxAtomicWAdd 6 5 0xff47),
    (64, 0xc3a946ff40000000, .stxAtomicWOr 9 10 0xff46),
    (64, 0xc3fc45ff50000000, .stxAtomicWAnd 12 15 0xff45),
    (64, 0xc34f44ffa0000000, .stxAtomicWXor 15 4 0xff44),
    (64, 0xc39243ff01000000, .stxAtomicWFetchAdd),
    (64, 0xc3e542ff41000000, .stxAtomicWFetchOr),
    (64, 0xc33841ff51000000, .stxAtomicWFetchAnd),
    (64, 0xc38b40ffa1000000, .stxAtomicWFetchXor),
    (64, 0xc3de3fffe1000000, .stxAtomicWXchg true),
    (64, 0xc3213efff1000000, .stxAtomicWCmpxchg true),
    (64, 0xdb743dff00000000, .stxAtomicDwAdd 4 7 0xff3d),
    (64, 0xdbc73cff40000000, .stxAtomicDwOr 7 12 0xff3c),
    (64, 0xdb1a3bff50000000, .stxAtomicDwAnd 10 1 0xff3b),
    (64, 0xdb6d3affa0000000, .stxAtomicDwXor 13 6 0xff3a),
    (64, 0xdbb039ff01000000, .stxAtomicDwFetchAdd),
    (64, 0xdb0338ff41000000, .stxAtomicDwFetchOr),
    (64, 0xdb5637ff51000000, .stxAtomicDwFetchAnd)] = true := by decide +kernel

theorem test_decode_load_store_4 : decodesTo [
    (64, 0xdba936ffa1000000, .stxAtomicDwFetchXor),
    (64, 0xdbfc35ffe1000000, .stxAtomicDwXchg true),
    (64, 0xdb4f34fff1000000, .stxAtomicDwCmpxchg true)] = true := by decide +kernel

theorem test_decode_alu_4 : decodesTo [
    (64, 0xe49233ff0f342211, .aluCodeEK),
    (64, 0xece532ff10342211, .aluCodeEX),
    (64, 0xe73831ff11342211, .alu64CodeEK),
    (64, 0xef8b30ff12342211, .alu64CodeEX),
    (64, 0xf4de2fff13342211, .aluCodeFK),
    (64, 0xfc212eff14342211, .aluCodeFX),
    (64, 0xf7742dff15342211, .alu64CodeFK),
    (64, 0xffc72cff16342211, .alu64CodeFX)] = true := by decide +kernel

theorem test_decode_jump_4 : decodesTo [
    (64, 0xe51a2bff17342211, .jmpCodeEK),
    (64, 0xed6d2aff18342211, .jmpCodeEX),
    (64, 0xe6b029ff19342211, .jmp32CodeEK),
    (64, 0xee0328ff1a342211, .jmp32CodeEX),
    (64, 0xf55627ff1b342211, .jmpCodeFK),
    (64, 0xfda926ff1c342211, .jmpCodeFX),
    (64, 0xf6fc25ff1d342211, .jmp32CodeFK),
    (64, 0xfe4f24ff1e342211, .jmp32CodeFX),
    (64, 0x853223ff1f342211, .jmpCallKSelOther 3),
    (64, 0x8df522ff20342211, .jmpCallXSelOther 15),
    (64, 0x867821ff21342211, .jmp32CallKSelOther 7),
    (64, 0x8e4b20ff22342211, .jmp32CallXSelOther 4)] = true := by decide +kernel

theorem test_decode_load_store_5 : decodesTo [
    (128, 0x5a5a5a5ae0000080117e1fff23342211, .ldImmSelOther .ldx .b 7 0x800000e0),
    (64, 0x70211eff24342211, .ldMemAny .b),
    (64, 0x9a741dff25342211, .notldxMemsxAny .st .dw),
    (64, 0xc9c71cff26342211, .anyAtomicH .ldx),
    (64, 0xd31a1bff27342211, .anyAtomicB .stx),
    (64, 0xc36d1aff02000000, .stxAtomicWOpOther 0x2),
    (64, 0xdbb019ff00010000, .stxAtomicDwOpOther 0x100),
    (64, 0xda0318ff2a342211, .notstxAtomicAny .st .dw),
    (64, 0xb15617ff2b342211, .anyMode5 .ldx .b),
    (64, 0xfba916ff2c342211, .anyMode7 .stx .dw)] = true := by decide +kernel

/-- Seven bytes are no word; an extended head with seven bytes after it has no extension word. -/
theorem test_decode_refuses : decode (List.replicate 7 0) = .error .truncatedWord ∧
    decode (List.replicate 15 0) = .error .missingExtensionWord := by decide +kernel

/-! ## Steps (95_test_vectors.md section 3.2) -/

/-- The start state S0 of section 3.2 with a one-word program. -/
def s0 (w : Nat) : State :=
  State.withFetchWord { State.reset with x := #v[0, 0xffffffffffffffff, 3, 0x123456789abcdef0, 0x8000000000000000,
    0x00000000ffffffff, 0, 0, 0, 0, 0] } 64 w

/-- From S0 the step completes with register `t.2.1` at `t.2.2` and every other register as it was. -/
def stepsTo (t : Nat × RegField × Word) : Bool :=
  match step (s0 t.1) with
  | .next u => decide (u = { ((s0 t.1).setReg t.2.1 t.2.2) with pc := 1, state := .running, result := .ok })
  | .fault _ => false
  | .refused _ => false

/-- From S0 the step completes and no register changes. -/
def stepsOver (w : Nat) : Bool := stepsTo (w, 0, 0)

/-- From S0 the step answers `InvalidRegister` and changes nothing. -/
def refusesRegister (w : Nat) : Bool :=
  match step (s0 w) with
  | .next u => decide (u = { s0 w with result := .invalidRegister })
  | .fault _ => false
  | .refused _ => false

/-- V-AS-1, 2, 3, 4, 5, 6, 8, 9 and V-AR-5. -/
theorem test_step_add : [(0x0701000001000000, 1, 0x0000000000000000),
    (0x0401000001000000, 1, 0x0000000000000000),
    (0x07020000ffffffff, 2, 0x0000000000000002),
    (0x04020000fcffffff, 2, 0x00000000ffffffff),
    (0x0f1300004d000000, 3, 0x123456789abcdeef),
    (0x0c25000000000000, 5, 0x0000000000000002),
    (0x0700000000000080, 0, 0xffffffff80000000),
    (0x0400000000000080, 0, 0x0000000080000000),
    (0x07c1000001000000, 1, 0x0000000000000000)].all stepsTo = true := by decide +kernel

/-- V-AS-10, 11, 12, 13. -/
theorem test_step_sub : [(0x1702000005000000, 2, 0xfffffffffffffffe),
    (0x1402000005000000, 2, 0x00000000fffffffe),
    (0x1f33000000000000, 3, 0x0000000000000000),
    (0x1c53000000000000, 3, 0x000000009abcdef1)].all stepsTo = true := by decide +kernel

/-- V-AS-15, 16, 17, 18, 21. -/
theorem test_step_mul : [(0x2703000010000000, 3, 0x23456789abcdef00),
    (0x2403000010000000, 3, 0x00000000abcdef00),
    (0x2f11000000000000, 1, 0x0000000000000001),
    (0x2c11000000000000, 1, 0x0000000000000001),
    (0x2f24000000000000, 4, 0x8000000000000000)].all stepsTo = true := by decide +kernel

/-- V-AS-22, 23, 24, 25. -/
theorem test_step_or : [(0x4702000000ffffff, 2, 0xffffffffffffff03),
    (0x4402000000ffffff, 2, 0x00000000ffffff03),
    (0x4f53000000000000, 3, 0x12345678ffffffff),
    (0x4c24000000000000, 4, 0x0000000000000003)].all stepsTo = true := by decide +kernel

/-- V-AS-27, 28, 29, 30. -/
theorem test_step_and : [(0x5701000000ffffff, 1, 0xffffffffffffff00),
    (0x5401000000ffffff, 1, 0x00000000ffffff00),
    (0x5f53000000000000, 3, 0x000000009abcdef0),
    (0x5c43000000000000, 3, 0x0000000000000000)].all stepsTo = true := by decide +kernel

/-- V-AS-32, 33, 36, 38, 39, 41. -/
theorem test_step_lsh : [(0x6702000040000000, 2, 0x0000000000000003),
    (0x6702000041000000, 2, 0x0000000000000006),
    (0x6402000020000000, 2, 0x0000000000000003),
    (0x6f25000000000000, 5, 0x00000007fffffff8),
    (0x6c25000000000000, 5, 0x00000000fffffff8),
    (0x67020000ffffffff, 2, 0x8000000000000000)].all stepsTo = true := by decide +kernel

/-- V-AS-42, 44, 46, 47, 48, 49. -/
theorem test_step_rsh : [(0x770400003f000000, 4, 0x0000000000000001),
    (0x7401000004000000, 1, 0x000000000fffffff),
    (0x7f23000000000000, 3, 0x02468acf13579bde),
    (0x7c23000000000000, 3, 0x0000000013579bde),
    (0x7703000040000000, 3, 0x123456789abcdef0),
    (0x7403000020000000, 3, 0x000000009abcdef0)].all stepsTo = true := by decide +kernel

/-- V-AS-51, 52, 54, 55, 53. -/
theorem test_step_xor : [(0xa7010000ffffffff, 1, 0x0000000000000000),
    (0xa4010000ffffffff, 1, 0x0000000000000000),
    (0xac53000000000000, 3, 0x000000006543210f),
    (0xa702000006000000, 2, 0x0000000000000005),
    (0xaf33000000000000, 3, 0x0000000000000000)].all stepsTo = true := by decide +kernel

/-- V-AS-56, 57, 58, 59, 60, 62. -/
theorem test_step_mov : [(0xb7030000ffffffff, 3, 0xffffffffffffffff),
    (0xb4030000ffffffff, 3, 0x00000000ffffffff),
    (0xbf36000000000000, 6, 0x123456789abcdef0),
    (0xbc36000000000000, 6, 0x000000009abcdef0),
    (0xbc11000000000000, 1, 0x00000000ffffffff),
    (0xb70a000000020000, 10, 0x0000000000000200)].all stepsTo = true := by decide +kernel

/-- V-AS-64 to 73 and V-AR-6 to 9: arithmetic outside the nine codes, a store and a jump. -/
theorem test_step_over : [0x3703000002000000, 0x3f23000000000000, 0x9723000002000000, 0x8703000000000000,
    0x8c23000000000000, 0xc704000001000000, 0xcc24000000000000, 0xd403000010000000, 0xe723000007000000,
    0xf423000007000000, 0x37cb000001000000, 0x8fff000000000000, 0x7bff000000000000, 0x1dde020000000000].all
    stepsOver = true := by
  decide +kernel

/-- V-AR-1 to 4. -/
theorem test_step_invalid_register : [0xb70b000001000000, 0x0fc1000000000000, 0x0cff000000000000,
    0x6f2b000000000000].all refusesRegister = true := by
  decide +kernel

/-- V-ST-1: right after reset a step halts with `EndOfProgram` and `pc` stays 0. -/
theorem test_step_from_reset : step State.reset = .next { State.reset with state := .halted, result := .endOfProgram } := rfl

/-- An extended instruction moves `pc` by 2 and writes no register (R187, R207). -/
theorem test_step_extended :
    (match step (State.reset.withFetchWord 128 0x0000000000000000180a000001000000) with
     | .next t => decide (t.pc = 2 ∧ t.x = State.reset.x ∧ t.state = .running ∧ t.result = .ok)
     | .fault _ => false
     | .refused _ => false) = true := by decide +kernel

/-! ## Text, lines, loading -/

/-- The Instruction of two words, the second read when the first is extended. -/
def instructionOf (w e : Word) : Instruction := ⟨w, if isExtended w then some e else none, isExtended w⟩

/-- Section 1 of 95_test_vectors.md, and V-LN-13 (a low half that does not sign-extend; the upper half of the extension word
is not read). -/
theorem test_render_rendered :
    render (instructionOf 0x0701000044332211 0) = .ok "r1 += 287454020" ∧
    render (instructionOf 0xb701000000000000 0) = .ok "r1 = 0" ∧
    render (instructionOf 0x631afcff00000000 0) = .ok "*(u32 *)(r10 - 4) = r1" ∧
    render (instructionOf 0x850000000e000000 0) = .ok "call 14" ∧
    render (instructionOf 0x1802000001000000 0xffffffff02000000) = .ok "r2 = 8589934593 ll" ∧
    render (instructionOf 0x9500000000000000 0) = .ok "exit" := by decide +kernel

/-- Each reason of R231, at the ends of its opcodes or immediates. -/
theorem test_render_unsupported : ([(0xd400000000000000, .byteSwap), (0xdff0000000000000, .byteSwap),
    (0x2000000000000000, .legacyAbs), (0x3b00000000000000, .legacyAbs), (0x4000000000000000, .legacyInd),
    (0x5b00000000000000, .legacyInd), (0xc300000001000000, .atomicFetch), (0xdb000000a1000000, .atomicFetch),
    (0xc3000000e0000000, .atomicXchg), (0xdb000000e1000000, .atomicXchg), (0xc3000000f0000000, .atomicCmpxchg),
    (0xdb000000f1000000, .atomicCmpxchg)] : List (Word × UnsupportedReason)).all
      (fun t => decide (render (instructionOf t.1 0) = .unsupported t.2)) = true := by decide +kernel

/-- Each reason of R232, at the ends of its opcodes, selectors or immediates. -/
theorem test_render_invalid : ([(0xe400000000000000, .arithCode), (0xff00000000000000, .arithCode),
    (0xe500000000000000, .jumpCode), (0xfe00000000000000, .jumpCode), (0x8530000000000000, .callSelector),
    (0x8ef0000000000000, .callSelector), (0xa000000000000000, .lsMode), (0xfb00000000000000, .lsMode),
    (0x0070000000000000, .immSelector), (0x1bf0000000000000, .immSelector), (0x6000000000000000, .memClass),
    (0x7800000000000000, .memClass), (0x8000000000000000, .memsxClass), (0x9b00000000000000, .memsxClass),
    (0xc800000000000000, .atomicSize), (0xd300000000000000, .atomicSize), (0xc000000000000000, .atomicClass),
    (0xda00000000000000, .atomicClass), (0xc300000002000000, .atomicOp), (0xdb00000000010000, .atomicOp)] :
      List (Word × InvalidReason)).all (fun t => decide (render (instructionOf t.1 0) = .invalid t.2)) = true := by
  decide +kernel

/-- The values next to those ranges render: selector 2 of CALL, selector 6 of IMM, MEM of classes LDX and ST. -/
theorem test_render_next_to_invalid :
    render (instructionOf 0x852000000e000000 0) = .ok "call 14" ∧
    render (instructionOf 0x1b61000001000000 0) = .ok "r1 = map_val(map_by_idx(1)) + 0" ∧
    render (instructionOf 0x6112000000000000 0) = .ok "r2 = *(u32 *)(r1 + 0)" ∧
    render (instructionOf 0x7a020000ffffffff 0) = .ok "*(u64 *)(r2 + 0) = -1" := by decide +kernel

/-- V-LN-1, 2, 7, 9, 11 and 14. -/
theorem test_line :
    renderLine 3 (instructionOf 0xb701000000000000 0) (indexWidth 12) ⟨true, true⟩ = .ok "03: b701000000000000 r1 = 0" ∧
    renderLine 3 (instructionOf 0xb701000000000000 0) (indexWidth 12) ⟨false, true⟩ = .ok "b701000000000000 r1 = 0" ∧
    renderLine 9 (instructionOf 0x9500000000000000 0) (indexWidth 11) ⟨true, true⟩ = .ok "09: 9500000000000000 exit" ∧
    renderLine 99 (instructionOf 0x0701000044332211 0) (indexWidth 101) ⟨true, true⟩ =
      .ok "099: 0701000044332211 r1 += 287454020" ∧
    renderLine 1 (instructionOf 0x1802000001000000 0x0000000002000000) (indexWidth 5) ⟨true, true⟩ =
      .ok "1: 18020000010000000000000002000000 r2 = 8589934593 ll" ∧
    renderLine 0 (instructionOf 0x850000000e000000 0) (indexWidth 100000) ⟨true, false⟩ = .ok "00000: call 14" := by
  decide +kernel

/-- V-PR-3, 4, 5: the last word is an extended head; no word; two zero words are one extended instruction. -/
theorem test_pair : pair [0x1801000000000000] = .error (.missingExtensionWord 0) ∧ pair [] = .ok [] ∧
    pair [0, 0] = .ok [⟨0, false⟩, ⟨0, true⟩] := ⟨rfl, rfl, rfl⟩

/-- V-PR-1, 6 and 7: the byte stream and the ASCII text of one program; twelve bytes. -/
theorem test_load :
    loadBytes [0xb7, 0x01, 0, 0, 0x05, 0, 0, 0, 0x95, 0, 0, 0, 0, 0, 0, 0] =
      .ok [⟨0xb701000005000000, false⟩, ⟨0x9500000000000000, false⟩] ∧
    loadAscii "b7010000\n05000000 95000000 00000000\n" =
      .ok [⟨0xb701000005000000, false⟩, ⟨0x9500000000000000, false⟩] ∧
    loadBytes (List.replicate 12 0) = .error (.malformedEncoding (.length 12)) := ⟨rfl, rfl, rfl⟩

/-! ## Witnesses: every statement with hypotheses has a case that meets them together -/

/-- A program of three slots: `r1 += 1`, and the extended `r2 = 0 ll` with its extension slot. -/
def prog3 : Memory := [⟨0x0701000001000000, false⟩, ⟨0x1802000000000000, false⟩, ⟨0, true⟩]

/-- The state right after `LoadProgram` of it, the state at its second head, and the state halted at its end. -/
def atStart : State := State.reset.loadProgram prog3
def atSecond : State := { atStart with pc := 1, state := .running }
def atEnd : State := { atStart with pc := 3, state := .halted, result := .endOfProgram }

theorem test_inv_atStart : atStart.Inv := ⟨by decide, by decide, by decide, by decide⟩
theorem test_inv_atSecond : atSecond.Inv := ⟨by decide, by decide, by decide, by decide⟩
theorem test_inv_atEnd : atEnd.Inv := ⟨by decide, by decide, by decide, by decide⟩

theorem test_witness_DecodeOfEncodeIsTheInstruction : (Instr.aluDivK 15 1 0x80000000).wellFormed = true ∧
    (Instr.ldImmSelOther .stx .b 7 0xffffffff).wellFormed = true := by decide

theorem test_witness_EncodeOfDecodeKeepsTheReadBits :
    (rowOf 0x85ff000011223344).isSome = true ∧ (rowOf 0x18ff000000000000).isSome = true := by decide +kernel

theorem test_witness_RenderIsTheFirstMatchingRow :
    (instructionOf 0x1861000000000080 0xff).wf = true ∧ (rowOf 0x1861000000000080).isSome = true ∧
    (instructionOf 0x3701000005000000 0).wf = true ∧ (rowOf 0x3701000005000000).isSome = true := by decide +kernel

/-- Two words of `r1 += 5` that differ in their `src` and offset bits, which its row does not read. -/
theorem test_witness_UnreadBitsChangeNothing :
    (instructionOf 0x0701000005000000 0).wf = true ∧ (instructionOf 0x07f1123405000000 0).wf = true ∧
    (rowOf 0x0701000005000000).map (fun r => (0x0701000005000000 : Word) &&& r.reads == 0x07f1123405000000 &&& r.reads) =
      some true := by decide +kernel

/-- A plain and an extended instruction at `pc`. -/
theorem test_witness_StepRunsTheDecodedInstruction :
    (atStart.prog[atStart.pc.toNat]? = some ⟨0x0701000001000000, false⟩ ∧
      decode (Memory.bytes (atStart.prog.drop atStart.pc.toNat)) =
        .ok (.alu64AddK 1 1, Memory.bytes (atStart.prog.drop 1))) ∧
    (atSecond.prog[atSecond.pc.toNat]? = some ⟨0x1802000000000000, false⟩ ∧
      decode (Memory.bytes (atSecond.prog.drop atSecond.pc.toNat)) = .ok (.ldImmLiteral64 .ld .dw 2 0 0, [])) := by
  decide +kernel

theorem test_witness_PairTagsExactlyTheExtensionSlots : pair (Memory.words prog3) = .ok prog3 := rfl

theorem test_witness_PairFailsExactlyAtALastExtendedHead :
    pair [0x0701000001000000, 0x1802000000000000] = .error (.missingExtensionWord 1) ∧
    pair [0x0701000001000000] = .ok [⟨0x0701000001000000, false⟩] := ⟨rfl, rfl⟩

/-- Seven bytes; eight bytes with their first and last in the word. -/
theorem test_witness_ByteStreamIsBigEndianWords :
    wordsOfBytes (List.replicate 7 0) = .error (.malformedEncoding (.length 7)) ∧
    wordsOfBytes [0xb7, 1, 2, 3, 4, 5, 6, 0xff] = .ok [0xb7010203040506ff] := ⟨rfl, rfl⟩

/-- An upper-case text with white space; one of six digits; V-PR-6's two unparsable chunks, one after no head and one that an
extended head needs. -/
theorem test_witness_AsciiInputLoadsTheWordsItSpells :
    asciiDigits "B7010000\n0500000F " = [0xb70100000500000f].flatMap (fun w => (hex16 w).toList) ∧
    (asciiDigits "b701 000").length % 16 ≠ 0 ∧
    (asciiDigits "b70100000500000g" = [].flatMap (fun w => (hex16 w).toList) ++ "b70100000500000g".toList ++ [] ∧
      pair [] = .ok [] ∧ loadAscii "b70100000500000g" = .error (.malformedEncoding (.chunk 0))) ∧
    (asciiDigits "1801000000000000zzzzzzzzzzzzzzzz" =
        [0x1801000000000000].flatMap (fun w => (hex16 w).toList) ++ "zzzzzzzzzzzzzzzz".toList ++ [] ∧
      pair [0x1801000000000000] = .error (.missingExtensionWord 0) ∧
      loadAscii "1801000000000000zzzzzzzzzzzzzzzz" = .error (.missingExtensionWord 0)) ∧
    'g' ∉ "0123456789abcdef".toList ∧ 'z' ∉ "0123456789abcdef".toList :=
  ⟨by decide +kernel, by decide +kernel, ⟨by decide +kernel, rfl, rfl⟩, ⟨by decide +kernel, rfl, rfl⟩, by decide +kernel,
    by decide +kernel⟩

/-- At the end, and at a head: plain and extended. -/
theorem test_witness_NextInstructionPeeks :
    Memory.slotCount atEnd.prog ≤ atEnd.pc.toNat ∧ atStart.prog[atStart.pc.toNat]? = some ⟨0x0701000001000000, false⟩ ∧
    atSecond.prog[atSecond.pc.toNat]? = some ⟨0x1802000000000000, false⟩ := by decide

/-- The empty program, and `pc` = `L` = 3. -/
theorem test_witness_StepAtTheEndHalts : Memory.slotCount State.reset.prog ≤ State.reset.pc.toNat ∧
    Memory.slotCount atEnd.prog ≤ atEnd.pc.toNat := by decide

theorem test_witness_HaltedIsAbsorbing : atEnd.Inv ∧ atEnd.state = .halted := ⟨test_inv_atEnd, rfl⟩

/-- A completed step by 1 and by 2, a step refused, and a step at the end. -/
theorem test_witness_PcAdvancesPastTheInstruction :
    (∃ t, step atStart = .next t ∧ t.pc = 1) ∧ (∃ t, step atSecond = .next t ∧ t.pc = 3) ∧
    (∃ t, step (s0 0xb70b000001000000) = .next t ∧ t.result = .invalidRegister) ∧
    (∃ t, atEnd.prog[atEnd.pc.toNat]? = none ∧ step atEnd = .next t) :=
  ⟨⟨_, rfl, rfl⟩, ⟨_, rfl, rfl⟩, ⟨_, rfl, rfl⟩, ⟨_, rfl, rfl⟩⟩

/-- A completed step by 2, and the step at the end, which leaves `pc`. -/
theorem test_witness_PcNeverWraps : (atSecond.Inv ∧ ∃ t, step atSecond = .next t ∧ t.result = .ok ∧ t.pc = 3) ∧
    (atEnd.Inv ∧ ∃ t, step atEnd = .next t ∧ t.result ≠ .ok ∧ t.pc = atEnd.pc) :=
  ⟨⟨test_inv_atSecond, _, rfl, rfl, rfl⟩, ⟨test_inv_atEnd, _, rfl, by decide, rfl⟩⟩

/-- Register 11 in the destination, 15 in the source; 10 exists. -/
theorem test_witness_InvalidRegisterExactlyWhenARegisterIsMissing :
    (∃ r ∈ (Instr.aluMovK 11 0).registers, 10 < r.toNat) ∧ (∃ r ∈ (Instr.alu64AddX 1 15).registers, 10 < r.toNat) ∧
    ¬ ∃ r ∈ (Instr.alu64AddX 10 10).registers, 10 < r.toNat := by decide

/-- The registers at both ends of the range have values, in a state that is not reset: what ADD, SUB, MUL, OR, AND, LSH, RSH
and XOR ask of `dst` and of `src`, and SameRegisterReadsBeforeItWrites of its one register. -/
theorem test_witness_operands : (s0 0).reg? 0 = some 0 ∧ (s0 0).reg? 10 = some 0 ∧ (s0 0).reg? 3 = some 0x123456789abcdef0 ∧
    (s0 0).reg? 11 = none := by decide

theorem test_witness_MovWritesTheOperand : (10 : RegField).toNat ≤ 10 ∧ (s0 0).reg? 1 = some 0xffffffffffffffff := by decide

theorem test_witness_ThirtyTwoBitResultsAreZeroExtended :
    ∃ t, exec (.aluAddX 3 1) (s0 0) = .next t ∧ t.result = .ok := ⟨_, rfl, rfl⟩

/-- A completed write to register 3 (register 4 is not it), and a refused one. -/
theorem test_witness_InstructionFrame :
    (∃ t, exec (.alu64AddX 3 1) (s0 0) = .next t ∧ t.result = .ok) ∧
    (Instr.alu64AddX 3 1).registers.head? ≠ some 4 ∧
    (∃ t, exec (.alu64AddX 3 11) (s0 0) = .next t ∧ t.result = .invalidRegister) := ⟨⟨_, rfl, rfl⟩, by decide, ⟨_, rfl, rfl⟩⟩

/-- Two states that differ in register 5, which `r3 += r1` does not name. -/
theorem test_witness_InstructionReadsOnlyItsRegisters :
    (s0 0).reg? 5 ≠ ((s0 0).setReg 5 7).reg? 5 ∧ (s0 0).pc = ((s0 0).setReg 5 7).pc ∧
    (∀ r ∈ (Instr.alu64AddX 3 1).registers, (s0 0).reg? r = ((s0 0).setReg 5 7).reg? r) ∧
    (∃ t, exec (.alu64AddX 3 1) (s0 0) = .next t) ∧ (∃ t, exec (.alu64AddX 3 1) ((s0 0).setReg 5 7) = .next t) :=
  ⟨by decide, by decide, by decide, ⟨_, rfl⟩, ⟨_, rfl⟩⟩

theorem test_witness_NoOperationWritesASlot :
    (∃ t r, operate .executeStep atStart = .next (t, r)) ∧ (∃ t r, operate .nextInstruction atStart = .next (t, r)) ∧
    (∃ t r, operate (.loadProgram prog3) State.reset = .next (t, r)) := ⟨⟨_, _, rfl⟩, ⟨_, _, rfl⟩, ⟨_, _, rfl⟩⟩

theorem test_witness_StepKeepsTheInvariant : atSecond.Inv ∧ (∃ t, step atSecond = .next t) ∧
    atEnd.Inv ∧ (∃ t, step atEnd = .next t) := ⟨test_inv_atSecond, ⟨_, rfl⟩, test_inv_atEnd, ⟨_, rfl⟩⟩

/-- A state in the middle of a program, and the program that its `LoadProgram` attaches. -/
theorem test_witness_OperationsAreAnsweredAndKeepTheInvariant :
    atSecond.Inv ∧ Memory.wf prog3 = true ∧ ∃ t r, operate (.loadProgram prog3) atSecond = .next (t, r) ∧ t.pc = 0 :=
  ⟨test_inv_atSecond, by decide, _, _, rfl, rfl⟩

/-- The program of three slots and one extension slot: two steps. -/
theorem test_witness_ProgramTakesOneStepPerInstruction :
    atStart.Inv ∧ atStart.pc = 0 ∧ Memory.registersExist atStart.prog ∧
    0 < Memory.slotCount atStart.prog - atStart.prog.countP Slot.isExtSlot := by
  refine ⟨test_inv_atStart, rfl, ?_, by decide⟩
  intro i head ins h hi
  have hlt : i < 3 := by
    by_contra hc
    rw [List.getElem?_eq_none (show atStart.prog.length ≤ i by show 3 ≤ i; omega)] at h
    cases h
  interval_cases i <;> cases h <;> cases hi <;> decide

/-- One word of each condition: both statements ask for nothing but an Instruction. -/
theorem test_witness_render_conditions :
    (instructionOf 0xdb000000f1000000 0).wf = true ∧ render (instructionOf 0xdb000000f1000000 0) = .unsupported .atomicCmpxchg ∧
    (instructionOf 0x0b70000000000000 5).wf = true ∧ render (instructionOf 0x0b70000000000000 5) = .invalid .immSelector := by
  decide +kernel

/-- The longest text there is (decision D33). -/
theorem test_witness_TextsAreAtMostFiftyTwoCharacters :
    render (instructionOf 0x186f000000000080 0x00000080) = .ok "r15 = map_val(map_by_idx(-2147483648)) + -2147483648" := by
  decide +kernel

theorem test_witness_DecimalTextSpellsTheNumber : decNat 0 = "0" ∧ decNat 10 = "10" ∧ dec (-2147483648) = "-2147483648" ∧
    sdec 0 = "+0" ∧ sdec (-32768) = "-32768" ∧ offOp (-4) = "-" ∧ offMag (-4) = "4" ∧ offOp 0 = "+" ∧ offMag 0 = "0" := by
  decide +kernel

/-- A text, an unsupported and an invalid encoding. -/
theorem test_witness_LineIsIndexDumpAndText :
    render (instructionOf 0x9500000000000000 0) = .ok "exit" ∧ (instructionOf 0x9500000000000000 0).wf = true ∧
    render (instructionOf 0xd400000000000000 0) = .unsupported .byteSwap ∧ (instructionOf 0xd400000000000000 0).wf = true ∧
    render (instructionOf 0xe400000000000000 0) = .invalid .arithCode ∧ (instructionOf 0xe400000000000000 0).wf = true := by
  decide +kernel

/-- The least program, and the two sides of a change of width. -/
theorem test_witness_IndicesArePaddedToOneWidth :
    pad 0 (indexWidth 1) = "0" ∧ pad 9 (indexWidth 10) = "9" ∧ pad 9 (indexWidth 11) = "09" := by decide +kernel

/-- All of the program's instructions render. -/
theorem test_witness_ListingHasOneLinePerHead : pair (Memory.words prog3) = .ok prog3 ∧
    (∀ i head ins, prog3[i]? = some head → instrAt prog3 i head = .ok ins → ∃ t, render ins = .ok t) ∧
    (listing (fun _ => .abort) ⟨true, false⟩ prog3).lines = ["0: r1 += 1", "1: r2 = 0 ll"] := by
  refine ⟨rfl, ?_, by decide +kernel⟩
  intro i head ins h hi
  have hlt : i < 3 := by
    by_contra hc
    rw [List.getElem?_eq_none (show prog3.length ≤ i by show 3 ≤ i; omega)] at h
    cases h
  interval_cases i <;> cases h <;> cases hi <;> exact ⟨_, rfl⟩

/-- `exit`, an unsupported END, an invalid code, `exit`: the listing ends at slot 2 with one line. -/
theorem test_witness_InvalidOpcodeEndsTheListing :
    pair [0x9500000000000000, 0xd400000000000000, 0xe400000000000000, 0x9500000000000000] =
      .ok [⟨0x9500000000000000, false⟩, ⟨0xd400000000000000, false⟩, ⟨0xe400000000000000, false⟩, ⟨0x9500000000000000, false⟩] ∧
    render (instructionOf 0xe400000000000000 0) = .invalid .arithCode ∧
    (∀ r, render (instructionOf 0x9500000000000000 0) ≠ .invalid r) ∧
    (∀ r, render (instructionOf 0xd400000000000000 0) ≠ .invalid r) ∧
    (listing (fun _ => .skip) ⟨true, false⟩ [⟨0x9500000000000000, false⟩, ⟨0xd400000000000000, false⟩, ⟨0xe400000000000000, false⟩,
      ⟨0x9500000000000000, false⟩]) = ⟨["0: exit"], .invalidOpcode .arithCode (some 2)⟩ := by
  refine ⟨rfl, by decide +kernel, ?_, ?_, by decide +kernel⟩
  · intro r h; cases h
  · intro r h; cases h

/-- A host that aborts ends at an invalid slot 1 after `exit`; one that skips slot 0 and aborts at slot 1 ends there. -/
theorem test_listing_choice :
    listing (fun _ => .abort) ⟨true, false⟩ [⟨0x9500000000000000, false⟩, ⟨0xe400000000000000, false⟩] =
      ⟨["0: exit"], .invalidOpcode .arithCode (some 1)⟩ ∧
    listing (fun i => if i = 0 then .skip else .abort) ⟨true, false⟩
      [⟨0xd400000000000000, false⟩, ⟨0x2000000000000000, false⟩, ⟨0x9500000000000000, false⟩] =
      ⟨[], .unsupportedEncoding .legacyAbs (some 1)⟩ := by decide +kernel

end Sys2Proof.Tests
end

/-! The invariant of R209 along a step and along an operation of the host: what a step from a state with the
invariant can do, said once, and the two statements of 00_scope.md that rest on it. -/

namespace Sys2Proof.Proofs

open Sys2Proof Sys2Proof.Machine Sys2Proof.Laws

/-! ## States that have the invariant -/

/-- Where the rest of the store from `pc` on is tagged as the scan tags, `pc` stands at a head or at the end, which is
clause (b) of R209. -/
theorem inv_of_tagged_drop {t : State} (hstore : Memory.wf t.prog = true) (hbound : t.pc.toNat ≤ Memory.slotCount t.prog)
    (htagged : Memory.tagged (t.prog.drop t.pc.toNat) = true)
    (hhalted : t.state = .halted → t.pc.toNat = Memory.slotCount t.prog) : t.Inv := by
  refine ⟨hstore, hbound, ?_, hhalted⟩
  unfold State.atHead
  cases hk : t.prog[t.pc.toNat]? with
  | none => rfl
  | some head => simp [head_of_tagged_drop htagged hk]

theorem reset_inv : State.reset.Inv :=
  inv_of_tagged_drop reset_wf (Nat.zero_le _) rfl (fun h => nomatch h)

/-- Loading attaches any store of the form `Pair` makes with `pc` at its first slot, which is a head (R202). -/
theorem loadProgram_inv (s : State) {p : Memory} (h : Memory.wf p = true) : (s.loadProgram p).Inv := by
  have ht : Memory.tagged p = true := by
    simp only [Memory.wf, Bool.and_eq_true] at h
    exact h.1
  exact inv_of_tagged_drop h (Nat.zero_le _) (by simpa using ht) (fun hs => nomatch hs)

/-- Raising a condition moves neither `pc` nor the store; `EndOfProgram`, which halts, is raised at the end only. -/
theorem raise_inv {s : State} (hI : s.Inv) (c : Condition)
    (hend : c = .endOfProgram → s.pc.toNat = Memory.slotCount s.prog) : (s.raise c).Inv where
  store := by simpa using hI.store
  bound := by simpa using hI.bound
  head := by simpa [State.atHead] using hI.head
  halted := by
    by_cases hc : c = .endOfProgram
    · simpa [hc] using hend hc
    · simpa [hc] using hI.halted

/-! ## A step from a state with the invariant -/

/-- Under the bound of R209 a `pc` with no slot to fetch stands at `L`. -/
theorem pc_eq_slotCount {s : State} (hI : s.Inv) (h : s.prog[s.pc.toNat]? = none) :
    s.pc.toNat = Memory.slotCount s.prog :=
  Nat.le_antisymm hI.bound (List.getElem?_eq_none_iff.mp h)

/-- Moving `pc` past the slots of the head it stands at counts without a wrap, stays within the store and meets the next
head or the end (R14, R207, R209). -/
theorem pc_past_head {s : State} (hI : s.Inv) {head : Slot} (h : s.prog[s.pc.toNat]? = some head) :
    (s.pc + (if isExtended head.word then 2 else 1)).toNat ≤ Memory.slotCount s.prog ∧
      Memory.tagged (s.prog.drop (s.pc + (if isExtended head.word then 2 else 1)).toNat) = true := by
  have hpc : s.pc.toNat < s.prog.length := (drop_of_getElem? h).1
  have hlen := length_of_wf hI.store
  rw [pc_add_toNat s.pc (isExtended head.word) (by omega)]
  rcases fetch_of_inv s hI head h with ⟨hx, _, htagged⟩ | ⟨e, hx, he, _, _, htagged⟩
  · simpa [hx] using ⟨hpc, htagged⟩
  · have hpc' : s.pc.toNat + 1 < s.prog.length := (drop_of_getElem? he).1
    simpa [hx] using ⟨hpc', htagged⟩

/-- A head in a state with the invariant is fetched, and the step is the action of its instruction (R20, R204). -/
theorem step_at_head {s : State} (hI : s.Inv) {head : Slot} (h : s.prog[s.pc.toNat]? = some head) :
    ∃ ins, instrAt s.prog s.pc.toNat head = .ok ins ∧ step s = exec ins.decoded s := by
  have hfetch : ∃ ins, instrAt s.prog s.pc.toNat head = .ok ins := by
    rcases fetch_of_inv s hI head h with ⟨_, hi, _⟩ | ⟨e, _, _, _, hi, _⟩
    · exact ⟨_, hi⟩
    · exact ⟨_, hi⟩
  obtain ⟨ins, hi⟩ := hfetch
  exact ⟨ins, hi, by simp [step, State.executeStep, h, hi]⟩

/-- All that a step can do from a state with the invariant (R204): raise `EndOfProgram` at the end, raise
`InvalidRegister`, or complete past the slots of its head, with registers `x`. -/
theorem step_cases {s : State} (hI : s.Inv) :
    (s.pc.toNat = Memory.slotCount s.prog ∧ step s = .next (s.raise .endOfProgram)) ∨
    (∃ head, s.prog[s.pc.toNat]? = some head ∧ step s = .next (s.raise .invalidRegister)) ∨
    (∃ head x, s.prog[s.pc.toNat]? = some head ∧
      step s = .next (State.completed { s with x := x } (if isExtended head.word then 2 else 1))) := by
  cases h : s.prog[s.pc.toNat]? with
  | none => exact .inl ⟨pc_eq_slotCount hI h, by simp [step, State.executeStep, h]⟩
  | some head =>
    obtain ⟨ins, hi, hstep⟩ := step_at_head hI h
    have hslots := instrSlots_fetched hi
    rw [hstep]
    rcases exec_next ins.decoded s with ⟨_, he⟩ | ⟨dst, _, v, _, _, hone, he⟩ | ⟨_, he⟩
    · exact .inr (.inr ⟨head, s.x, rfl, by rw [he, hslots]⟩)
    · exact .inr (.inr ⟨head, (s.setReg dst v).x, rfl, by rw [he, ← hslots, hone]; rfl⟩)
    · exact .inr (.inl ⟨head, rfl, he⟩)

/-- A completed step keeps the invariant, whatever it writes to the registers (R207, R209). -/
theorem completed_inv {s : State} (hI : s.Inv) {head : Slot} (h : s.prog[s.pc.toNat]? = some head)
    (x : Vector Word Config.numRegs) :
    (State.completed { s with x := x } (if isExtended head.word then 2 else 1)).Inv := by
  obtain ⟨hbound, htagged⟩ := pc_past_head hI h
  exact inv_of_tagged_drop hI.store hbound htagged (fun hs => nomatch hs)

/-- From a state with the invariant a step is answered with a state that has it. -/
theorem step_next_inv {s : State} (hI : s.Inv) : ∃ t, step s = .next t ∧ t.Inv := by
  rcases step_cases hI with ⟨hend, hs⟩ | ⟨head, _, hs⟩ | ⟨head, x, hhead, hs⟩
  · exact ⟨_, hs, raise_inv hI _ (fun _ => hend)⟩
  · exact ⟨_, hs, raise_inv hI _ (fun hc => nomatch hc)⟩
  · exact ⟨_, hs, completed_inv hI hhead x⟩

/-- From a state with the invariant `NextInstruction` always answers (R203). -/
theorem nextInstruction_ok {s : State} (hI : s.Inv) : ∃ r, s.nextInstruction = .ok r := by
  rcases nextInstruction_cases s with ⟨_, hr⟩ | ⟨head, f, hhead, herr, _⟩ | ⟨head, ins, _, _, hr⟩
  · exact ⟨_, hr⟩
  · obtain ⟨ins, hok, _⟩ := step_at_head hI hhead
    cases hok.symm.trans herr
  · exact ⟨_, hr⟩

/-! ## The statements -/

/-- Settles O50: an operation either sets `pc` to a first slot, leaves the state, or is a step. -/
theorem operationsAreAnsweredAndKeepTheInvariant : Obligations.OperationsAreAnsweredAndKeepTheInvariant := by
  intro s o hI hload
  cases o with
  | reset => exact ⟨_, _, rfl, reset_inv⟩
  | loadProgram p => exact ⟨_, _, rfl, loadProgram_inv s (hload p rfl)⟩
  | nextInstruction =>
    obtain ⟨r, hr⟩ := nextInstruction_ok hI
    exact ⟨s, r, by simp [operate, hr], hI⟩
  | executeStep =>
    obtain ⟨t, ht, htI⟩ := step_next_inv hI
    exact ⟨t, .condition t.result, by simp [operate, ht], htI⟩

/-- Settles O49, by the three things a step can do from a state with the invariant. -/
theorem stepsNeverStopOrRaiseADecodeCondition : Obligations.StepsNeverStopOrRaiseADecodeCondition := by
  intro s hI
  rcases step_cases hI with ⟨_, hs⟩ | ⟨head, _, hs⟩ | ⟨head, x, _, hs⟩
  · exact ⟨_, hs, .inr (.inl (raise_result _ _))⟩
  · exact ⟨_, hs, .inr (.inr (raise_result _ _))⟩
  · exact ⟨_, hs, .inl (completed_result _ _)⟩

end Sys2Proof.Proofs

/-! What an instruction, a step and an operation of the host leave unchanged (10_state.md): the program store, the registers
not written, and what the answer does not depend on; and `pc` as a number along them. -/

namespace Sys2Proof.Proofs

open Sys2Proof Sys2Proof.Machine Sys2Proof.Laws

/-! ## What an operation that answers has done -/

/-- A register that exists reads 0 after reset (R22). -/
theorem reset_reg? {r : RegField} (h : r.toNat ≤ 10) : State.reset.reg? r = some 0 := by
  have hlt : r.toNat < Config.numRegs := Nat.lt_succ_of_le h
  simp [State.reg?, State.reset, hlt]

/-- `NextInstruction` answers, where it answers, the state it was given (R203). -/
theorem operate_nextInstruction_next {s t : State} {r : Response} (h : operate .nextInstruction s = .next (t, r)) :
    t = s := by
  cases hn : s.nextInstruction with
  | ok a => simp_all [operate]
  | error f => simp [operate, hn] at h

/-- The state after `ExecuteStep` is the one its step answers (R204). -/
theorem operate_executeStep_next {s t : State} {r : Response} (h : operate .executeStep s = .next (t, r)) :
    step s = .next t := by
  cases hs : step s with
  | next u => simp_all [operate]
  | fault f => simp [operate, hs] at h
  | refused q => simp [operate, hs] at h

/-- `LoadProgram` answers the state with the program attached (R202). -/
theorem operate_loadProgram_next {s t : State} {p : Memory} {r : Response}
    (h : operate (.loadProgram p) s = .next (t, r)) : t = s.loadProgram p := by
  cases h
  rfl

/-- `Reset` answers the state after reset (R260). -/
theorem operate_reset_next {s t : State} {r : Response} (h : operate .reset s = .next (t, r)) : t = State.reset := by
  cases h
  rfl

/-! ## What an instruction writes -/

/-- The state an instruction answers: stepped over, completed with its first register written, or refused (R101, R205, R206). -/
theorem exec_next_cases {i : Instr} {s t : State} (h : exec i s = .next t) :
    t = s.completed (instrSlots i) ∨
    (∃ dst v, i.registers.head? = some dst ∧ t = (s.setReg dst v).completed 1) ∨
    t = s.raise .invalidRegister := by
  rcases exec_next i s with ⟨_, he⟩ | ⟨dst, rest, v, hr, _, _, he⟩ | ⟨_, he⟩ <;> cases he.symm.trans h
  · exact .inl rfl
  · exact .inr (.inl ⟨dst, v, by simp [hr], rfl⟩)
  · exact .inr (.inr rfl)

/-- No instruction writes the program store (R19). -/
theorem exec_next_prog {i : Instr} {s t : State} (h : exec i s = .next t) : t.prog = s.prog := by
  rcases exec_next_cases h with rfl | ⟨dst, v, _, rfl⟩ | rfl <;> simp

/-- An instruction writes no register but the first it indexes (R12, R101). -/
theorem exec_next_reg? {i : Instr} {s t : State} (h : exec i s = .next t) {r : RegField}
    (hr : i.registers.head? ≠ some r) : t.reg? r = s.reg? r := by
  rcases exec_next_cases h with rfl | ⟨dst, v, hdst, rfl⟩ | rfl
  · exact reg?_completed s r _
  · have hne : r ≠ dst := by
      rintro rfl
      exact hr hdst
    rw [reg?_completed, reg?_setReg_ne s hne]
  · exact reg?_raise s r _

/-- An instruction completes, or hands back `InvalidRegister` and writes nothing (R205, R241). -/
theorem exec_next_completed_or_refused {i : Instr} {s t : State} (h : exec i s = .next t) :
    (t.result = .ok ∧ t.state = .running) ∨ t = { s with result := .invalidRegister } := by
  rcases exec_next_cases h with rfl | ⟨dst, v, _, rfl⟩ | rfl
  · exact .inl ⟨rfl, rfl⟩
  · exact .inl ⟨rfl, rfl⟩
  · exact .inr rfl

/-- No step writes the program store, from any state (R19, R204). -/
theorem step_next_prog {s t : State} (h : step s = .next t) : t.prog = s.prog := by
  rcases executeStep_cases s exec with ⟨_, hs⟩ | ⟨_, f, _, _, hs⟩ | ⟨_, ins, _, _, hs⟩
  · cases hs.symm.trans h
    exact raise_prog s _
  · cases hs.symm.trans h
  · exact exec_next_prog (hs.symm.trans h)

/-! ## What an instruction reads -/

/-- Two states that the registers `rs` and `pc` do not tell apart. -/
def AlikeOn (rs : List RegField) (s s' : State) : Prop :=
  s.pc = s'.pc ∧ ∀ r ∈ rs, s.reg? r = s'.reg? r

theorem AlikeOn.completed {rs : List RegField} {s s' : State} (h : AlikeOn rs s s') (n : BitVec Config.pcWidth) :
    AlikeOn rs (s.completed n) (s'.completed n) := by
  obtain ⟨hpc, hregs⟩ := h
  exact ⟨by simp [hpc], by simpa using hregs⟩

theorem AlikeOn.raise {rs : List RegField} {s s' : State} (h : AlikeOn rs s s') (c : Condition) :
    AlikeOn rs (s.raise c) (s'.raise c) := by
  obtain ⟨hpc, hregs⟩ := h
  exact ⟨by simp [hpc], by simpa using hregs⟩

/-- The same value written to the same register of both keeps them alike. -/
theorem AlikeOn.setReg {rs : List RegField} {s s' : State} (h : AlikeOn rs s s') (dst : RegField) (v : Word) :
    AlikeOn rs (s.setReg dst v) (s'.setReg dst v) := by
  obtain ⟨hpc, hregs⟩ := h
  refine ⟨hpc, fun r hr => ?_⟩
  by_cases hd : r = dst
  · subst hd
    rw [reg?_setReg_self, reg?_setReg_self, hregs r hr]
  · rw [reg?_setReg_ne s hd, reg?_setReg_ne s' hd, hregs r hr]

/-- An operand's value depends on no register but those it indexes (R101). -/
theorem operand_value_congr {o : Operand} {s s' : State} (h : ∀ r ∈ operandRegisters o, s.reg? r = s'.reg? r) :
    o.value s = o.value s' := by
  cases o with
  | k imm => rfl
  | x src => exact h src (List.mem_singleton_self src)

/-- The action on an interpreted instruction depends on no register but the destination and the operand's: on states alike
there both complete, with one value written, or both raise `InvalidRegister` (R101, R205). -/
theorem interpret_alike {s s' : State} {dst : RegField} {o : Operand} (h : AlikeOn (dst :: operandRegisters o) s s')
    (w : Width) (f : (n : Nat) → BitVec n → BitVec n → BitVec n) :
    ∃ t t', s.interpret w f dst o = .next t ∧ s'.interpret w f dst o = .next t' ∧ t.result = t'.result ∧
      AlikeOn (dst :: operandRegisters o) t t' := by
  have hdst : s.reg? dst = s'.reg? dst := h.2 dst List.mem_cons_self
  have hop : o.value s = o.value s' := operand_value_congr fun r hr => h.2 r (List.mem_cons_of_mem _ hr)
  rcases interpret_cases s w f dst o with ⟨a, b, ha, hb, hs⟩ | ⟨hnone, hs⟩ <;>
    rcases interpret_cases s' w f dst o with ⟨a', b', ha', hb', hs'⟩ | ⟨hnone', hs'⟩
  · obtain rfl : a = a' := Option.some.inj (ha.symm.trans (hdst.trans ha'))
    obtain rfl : b = b' := Option.some.inj (hb.symm.trans (hop.trans hb'))
    exact ⟨_, _, hs, hs', rfl, (h.setReg dst _).completed 1⟩
  · simp [← hdst, ← hop, ha, hb] at hnone'
  · simp [hdst, hop, ha', hb'] at hnone
  · exact ⟨_, _, hs, hs', by simp, h.raise _⟩

/-- States alike in `pc` and in the registers an instruction indexes are answered alike there (R12). -/
theorem exec_alike {i : Instr} {s s' : State} (h : AlikeOn i.registers s s') :
    ∃ t t', exec i s = .next t ∧ exec i s' = .next t' ∧ t.result = t'.result ∧ AlikeOn i.registers t t' := by
  rcases exec_cases i with ⟨_, he⟩ | ⟨w, f, dst, o, hr, _, he⟩
  · exact ⟨_, _, he s, he s', rfl, h.completed _⟩
  · rw [hr] at h ⊢
    rw [he s, he s']
    exact interpret_alike h w f

/-! ## `pc` as a number -/

/-- Below `L` there is room in `pc` for the slots of an extended instruction (R14, decision D29). -/
theorem pc_add_two_lt {s : State} (hI : s.Inv) {head : Slot} (h : s.prog[s.pc.toNat]? = some head) :
    s.pc.toNat + 2 < 2 ^ 32 := by
  have hpc : s.pc.toNat < s.prog.length := (drop_of_getElem? h).1
  have hlen := length_of_wf hI.store
  omega

/-- Where a step from a state with the invariant leaves `pc`: in its place when it does not complete, past the slots of its
head, counted without a wrap, when it does; never past `L` (R14, R207, R209). -/
theorem step_next_pc {s t : State} (hI : s.Inv) (h : step s = .next t) :
    t.pc.toNat ≤ Memory.slotCount s.prog ∧
      ((t.result ≠ .ok ∧ t.pc = s.pc) ∨
        (t.result = .ok ∧ ∃ head, s.prog[s.pc.toNat]? = some head ∧ s.pc.toNat + 2 < 2 ^ 32 ∧
          t.pc.toNat = s.pc.toNat + (if isExtended head.word then 2 else 1))) := by
  rcases step_cases hI with ⟨_, hs⟩ | ⟨_, _, hs⟩ | ⟨head, x, hhead, hs⟩ <;> cases hs.symm.trans h
  · exact ⟨hI.bound, .inl ⟨by simp, by simp⟩⟩
  · exact ⟨hI.bound, .inl ⟨by simp, by simp⟩⟩
  · have hroom := pc_add_two_lt hI hhead
    exact ⟨(pc_past_head hI hhead).1, .inr ⟨rfl, head, hhead, hroom, pc_add_toNat s.pc _ hroom⟩⟩

/-! ## The statements -/

/-- Settles O27: the step by `step_next_pc`, the other operations by what they answer. -/
theorem pcNeverWraps : Obligations.PcNeverWraps := by
  intro s t hI
  refine ⟨step_next_pc hI, fun r h => ?_, fun r p h => ?_, fun r h => ?_⟩
  · rw [operate_nextInstruction_next h]
  · rw [operate_loadProgram_next h, loadProgram_pc]
  · rw [operate_reset_next h, reset_pc]

/-- Settles O44, from the three states an instruction can answer. -/
theorem instructionFrame : Obligations.InstructionFrame := by
  intro i s t h
  have hprog := exec_next_prog h
  exact ⟨hprog, fun a => by rw [hprog], fun r hr => exec_next_reg? h hr, exec_next_completed_or_refused h⟩

/-- Settles O45, by the relation `AlikeOn`, which `exec` keeps on the registers of its instruction. -/
theorem instructionReadsOnlyItsRegisters : Obligations.InstructionReadsOnlyItsRegisters := by
  intro i s s' t t' hpc hregs ht ht'
  obtain ⟨u, u', hu, hu', hresult, hpc', hregs'⟩ := exec_alike ⟨hpc, hregs⟩
  cases hu.symm.trans ht
  cases hu'.symm.trans ht'
  exact ⟨hresult, hpc', hregs'⟩

/-- Settles O46, with no premise on the state. -/
theorem noOperationWritesASlot : Obligations.NoOperationWritesASlot := by
  intro s t
  refine ⟨fun r h => ?_, fun r h => ?_, fun p r h => ?_⟩
  · have hprog := step_next_prog (operate_executeStep_next h)
    exact ⟨hprog, fun a => by rw [hprog]⟩
  · rw [operate_nextInstruction_next h]
  · rw [operate_loadProgram_next h, loadProgram_prog]

/-- Settles O20: `Reset` looks at nothing of the state it is given. -/
theorem resetZeroesTheStepper : Obligations.ResetZeroesTheStepper := by
  intro s
  exact ⟨State.reset, rfl, rfl, fun r hr => reset_reg? hr, reset_pc, reset_state, rfl⟩

end Sys2Proof.Proofs

/-! The loader's contract (20_memory.md sections 2, 3 and 6): the byte stream and its words, the pairing scan as a set of
equations and what a store it makes looks like, and the ASCII format. -/

namespace Sys2Proof.Proofs

open Sys2Proof Sys2Proof.Machine Sys2Proof.Laws

/-! ## The bytes of a word (R33) -/

/-- The word taken off a byte stream has the bytes it was taken from: the other direction of `takeWord_streamBytes`. -/
theorem streamBytes_of_takeWord {bs rest : List Byte} {w : Word} (h : takeWord bs = some (w, rest)) :
    streamBytes w ++ rest = bs := by
  unfold takeWord at h
  split at h
  case h_1 b0 b1 b2 b3 b4 b5 b6 b7 tail =>
    cases h
    simp only [streamBytes, List.cons_append, List.nil_append, List.cons.injEq, and_true]
    refine ⟨?_, ?_, ?_, ?_, ?_, ?_, ?_, ?_⟩ <;>
      (apply BitVec.eq_of_getLsbD_eq
       intro i hi
       simp only [BitVec.getLsbD_append, BitVec.getLsbD_extractLsb']
       interval_cases i <;> simp)
  case h_2 => cases h

/-- A word is taken off any stream of eight bytes or more. -/
theorem takeWord_of_length {bs : List Byte} (h : 8 ≤ bs.length) : ∃ w rest, takeWord bs = some (w, rest) := by
  match bs, h with
  | b0 :: b1 :: b2 :: b3 :: b4 :: b5 :: b6 :: b7 :: rest, _ => exact ⟨_, rest, rfl⟩

/-- Stream byte `j` of a word is `sbyte(w, j)`, the most significant at `j = 0`. -/
theorem streamBytes_getElem? (w : Word) {j : Nat} (hj : j < 8) :
    (streamBytes w)[j]? = some (w.extractLsb' (8 * (7 - j)) 8) := by
  interval_cases j <;> rfl

/-- The words of a stream of `8 n` bytes have exactly that stream as their bytes. -/
theorem flatMap_streamBytes_wordsOf {n : Nat} {bs : List Byte} (h : bs.length = 8 * n) :
    (wordsOf n bs).flatMap streamBytes = bs := by
  induction n generalizing bs with
  | zero => exact (List.length_eq_zero_iff.mp h).symm
  | succ n ih =>
    obtain ⟨w, rest, ht⟩ := takeWord_of_length (bs := bs) (by omega)
    have hbs := streamBytes_of_takeWord ht
    have hrest : rest.length = 8 * n := by
      have hlen := congrArg List.length hbs
      simp only [List.length_append, streamBytes_length] at hlen
      omega
    simp [wordsOf, ht, ih hrest, hbs]

theorem flatMap_streamBytes_length (ws : List Word) : (ws.flatMap streamBytes).length = 8 * ws.length := by
  simp [List.length_flatMap, Nat.mul_comm]

/-- Stream byte `8 i + j` of a sequence of words is stream byte `j` of word `i`. -/
theorem flatMap_streamBytes_getElem? {ws : List Word} {i : Nat} {w : Word} (h : ws[i]? = some w) {j : Nat} (hj : j < 8) :
    (ws.flatMap streamBytes)[8 * i + j]? = (streamBytes w)[j]? := by
  induction ws generalizing i with
  | nil => cases h
  | cons v vs ih =>
    rw [List.flatMap_cons]
    cases i with
    | zero =>
      cases h
      rw [List.getElem?_append_left (by rw [streamBytes_length]; omega), Nat.mul_zero, Nat.zero_add]
    | succ i =>
      rw [List.getElem?_append_right (by rw [streamBytes_length]; omega), ← ih h, streamBytes_length]
      congr 1
      omega

/-! ## The pairing scan (R36, R37) -/

/-- A plain word takes one slot, and the scan goes on after it. -/
theorem pairFrom_plain {w : Word} (hw : isExtended w = false) (i : Nat) (ws : List Word) :
    pairFrom i (w :: ws) = (pairFrom (i + 1) ws).map (⟨w, false⟩ :: ·) := by
  cases ws with
  | nil => simp [pairFrom, hw, Except.map]
  | cons e ws => cases h : pairFrom (i + 1) (e :: ws) <;> simp [pairFrom, hw, h, Except.map]

/-- An extended head takes the word after it as its extension, and the scan goes on after both. -/
theorem pairFrom_extended {w : Word} (hw : isExtended w = true) (i : Nat) (e : Word) (ws : List Word) :
    pairFrom i (w :: e :: ws) = (pairFrom (i + 2) ws).map (⟨w, false⟩ :: ⟨e, true⟩ :: ·) := by
  cases h : pairFrom (i + 2) ws <;> simp [pairFrom, hw, h, Except.map]

/-- An extended head with no word after it is refused with its index. -/
theorem pairFrom_extended_last {w : Word} (hw : isExtended w = true) (i : Nat) :
    pairFrom i [w] = .error (.missingExtensionWord i) := by
  simp [pairFrom, hw]

/-- The scan's own induction: at a plain word, at an extended head with its extension, at an extended head that stands
last. -/
theorem scan_induction {motive : Nat → List Word → Prop} (nil : ∀ i, motive i [])
    (plain : ∀ i w ws, isExtended w = false → motive (i + 1) ws → motive i (w :: ws))
    (extended : ∀ i w e ws, isExtended w = true → motive (i + 2) ws → motive i (w :: e :: ws))
    (last : ∀ i w, isExtended w = true → motive i [w]) (i : Nat) (ws : List Word) : motive i ws := by
  match ws with
  | [] => exact nil i
  | [w] =>
    cases hw : isExtended w with
    | false => exact plain i w [] hw (nil _)
    | true => exact last i w hw
  | w :: e :: ws =>
    cases hw : isExtended w with
    | false => exact plain i w (e :: ws) hw (scan_induction nil plain extended last (i + 1) (e :: ws))
    | true => exact extended i w e ws hw (scan_induction nil plain extended last (i + 2) ws)
termination_by ws.length

/-- The scan answers from what it answers on the words after a head, so its success is inverted at `Except.map`. -/
theorem map_eq_ok {x : Except Condition Memory} {f : Memory → Memory} {m : Memory} :
    x.map f = .ok m ↔ ∃ a, x = .ok a ∧ f a = m := by
  cases x <;> simp [Except.map]

/-- A scan that succeeds on the words in front goes on from the word after them. -/
theorem pairFrom_append {i : Nat} {front : List Word} {m : Memory} (h : pairFrom i front = .ok m) (ws : List Word) :
    pairFrom i (front ++ ws) = (pairFrom (i + front.length) ws).map (m ++ ·) := by
  induction i, front using scan_induction generalizing m with
  | nil i =>
    cases h
    cases hr : pairFrom i ws <;> simp [hr, Except.map]
  | plain i w front hw ih =>
    rw [pairFrom_plain hw, map_eq_ok] at h
    obtain ⟨m', hf, rfl⟩ := h
    have hlen : i + 1 + front.length = i + (w :: front).length := by rw [List.length_cons]; omega
    rw [List.cons_append, pairFrom_plain hw, ih hf, hlen]
    cases pairFrom (i + (w :: front).length) ws <;> rfl
  | extended i w e front hw ih =>
    rw [pairFrom_extended hw, map_eq_ok] at h
    obtain ⟨m', hf, rfl⟩ := h
    have hlen : i + 2 + front.length = i + (w :: e :: front).length := by rw [List.length_cons, List.length_cons]; omega
    rw [List.cons_append, List.cons_append, pairFrom_extended hw, ih hf, hlen]
    cases pairFrom (i + (w :: e :: front).length) ws <;> rfl
  | last i w hw => simp [pairFrom_extended_last hw] at h

/-- The scan keeps the words. -/
theorem words_of_pairFrom {i : Nat} {ws : List Word} {m : Memory} (h : pairFrom i ws = .ok m) : Memory.words m = ws := by
  induction i, ws using scan_induction generalizing m with
  | nil i => cases h; rfl
  | plain i w ws hw ih =>
    rw [pairFrom_plain hw, map_eq_ok] at h
    obtain ⟨m', hr, rfl⟩ := h
    simpa [Memory.words] using ih hr
  | extended i w e ws hw ih =>
    rw [pairFrom_extended hw, map_eq_ok] at h
    obtain ⟨m', hr, rfl⟩ := h
    simpa [Memory.words] using ih hr
  | last i w hw => simp [pairFrom_extended_last hw] at h

/-- The scan of a tagged store's words makes the store again: the other direction of `pairFrom_tagged`. -/
theorem pairFrom_words_of_tagged {m : Memory} (h : Memory.tagged m = true) (i : Nat) :
    pairFrom i (Memory.words m) = .ok m := by
  induction m using Memory.tagged.induct generalizing i with
  | case1 => rfl
  | case2 s =>
    obtain ⟨w, x⟩ := s
    simp only [Memory.tagged, Bool.and_eq_true, Bool.not_eq_true'] at h
    obtain ⟨rfl, hw⟩ := h
    exact pairFrom_plain hw i []
  | case3 s e rest ihx ihp =>
    obtain ⟨w, x⟩ := s
    obtain ⟨rfl, hrest⟩ := tagged_cons h
    cases hw : isExtended w with
    | false =>
      have hr : Memory.tagged (e :: rest) = true := by simpa [hw] using hrest
      exact (pairFrom_plain hw i _).trans (map_eq_ok.mpr ⟨_, ihp hr (i + 1), rfl⟩)
    | true =>
      obtain ⟨hx, hr⟩ : e.isExtSlot = true ∧ Memory.tagged rest = true := by simpa [hw] using hrest
      obtain ⟨ew, rfl⟩ : ∃ ew, e = ⟨ew, true⟩ := ⟨e.word, by rw [← hx]⟩
      exact (pairFrom_extended hw i ew _).trans (map_eq_ok.mpr ⟨_, ihx hr (i + 2), rfl⟩)

/-- `Pair` makes of a stream the one store with its words that is tagged as the scan tags. -/
theorem pair_eq_ok_iff {ws : List Word} {m : Memory} :
    pair ws = .ok m ↔ Memory.words m = ws ∧ Memory.tagged m = true := by
  constructor
  · intro h
    exact ⟨words_of_pairFrom h, pairFrom_tagged 0 ws m h⟩
  · rintro ⟨rfl, ht⟩
    exact pairFrom_words_of_tagged ht 0

/-! ## The tags of a store, slot by slot (R18, R36) -/

/-- The slot after this one is its extension slot: it is an untagged extended one. -/
def opensExtension (s : Slot) : Bool := !s.isExtSlot && isExtended s.word

/-- The tag of `b`, right after `a`, is the one the pairing scan gives it. -/
def TagFollows (a b : Slot) : Prop := b.isExtSlot = opensExtension a

theorem opensExtension_eq_true {s : Slot} :
    opensExtension s = true ↔ s.isExtSlot = false ∧ isExtended s.word = true := by
  simp [opensExtension]

theorem opensExtension_eq_false {s : Slot} :
    opensExtension s = false ↔ (s.isExtSlot = false → isExtended s.word = false) := by
  cases h : s.isExtSlot <;> simp [opensExtension, h]

/-- The left-to-right recursion of `tagged`, said of neighbouring slots: the first slot is untagged, each next one is tagged
when the one before it opens an extension, and the last one opens none. -/
theorem tagged_iff_isChain (m : Memory) :
    Memory.tagged m = true ↔
      ((∀ s ∈ m.head?, s.isExtSlot = false) ∧ m.IsChain TagFollows) ∧ ∀ s ∈ m.getLast?, opensExtension s = false := by
  induction m using Memory.tagged.induct with
  | case1 => simp [Memory.tagged]
  | case2 s => cases h : s.isExtSlot <;> simp [Memory.tagged, opensExtension, h]
  | case3 s e rest ihx ihp =>
    cases hs : s.isExtSlot with
    | true => simp [Memory.tagged, hs]
    | false =>
      cases hw : isExtended s.word with
      | false =>
        have hopen : opensExtension s = false := by simp [opensExtension, hw]
        simp [Memory.tagged, hs, hw, ihp, TagFollows, hopen, and_assoc]
      | true =>
        have hopen : opensExtension s = true := by simp [opensExtension, hs, hw]
        cases he : e.isExtSlot with
        | false => simp [Memory.tagged, hs, hw, he, TagFollows, hopen]
        | true =>
          have heopen : opensExtension e = false := by simp [opensExtension, he]
          rw [List.isChain_cons_cons, List.isChain_cons]
          cases rest with
          | nil => simp [Memory.tagged, hs, hw, he, TagFollows, hopen, heopen]
          | cons r rest' => simp [Memory.tagged, hs, hw, he, ihx, TagFollows, hopen, heopen, and_assoc]

/-- The same by index: a slot is tagged exactly when there is a slot before it that opens an extension. -/
theorem forall_tag_iff (m : Memory) :
    (∀ i slot, m[i]? = some slot →
      (slot.isExtSlot = true ↔ ∃ j before, i = j + 1 ∧ m[j]? = some before ∧ opensExtension before = true)) ↔
      (∀ s ∈ m.head?, s.isExtSlot = false) ∧ m.IsChain TagFollows := by
  rw [List.isChain_iff_getElem]
  constructor
  · intro h
    refine ⟨fun s hs => ?_, fun i hi => ?_⟩
    · have h0 := h 0 s (by rwa [← List.head?_eq_getElem?])
      simpa using h0
    · have hi' := h (i + 1) m[i + 1] (List.getElem?_eq_getElem hi)
      rw [TagFollows, Bool.eq_iff_iff, hi']
      simp [List.getElem?_eq_getElem (Nat.lt_of_succ_lt hi)]
  · rintro ⟨hhead, hchain⟩ i slot hslot
    cases i with
    | zero =>
      have h0 := hhead slot (by rwa [List.head?_eq_getElem?])
      simp [h0]
    | succ j =>
      obtain ⟨hj, rfl⟩ := List.getElem?_eq_some_iff.mp hslot
      have hj' := hchain j hj
      rw [TagFollows, Bool.eq_iff_iff] at hj'
      rw [hj']
      simp [List.getElem?_eq_getElem (Nat.lt_of_succ_lt hj)]

/-! ## The statements on pairing and on byte streams -/

/-- Settles O16: the store is the tagged one with the stream's words, and its tags are read slot by slot. -/
theorem pairTagsExactlyTheExtensionSlots : Obligations.PairTagsExactlyTheExtensionSlots := by
  intro ws m
  rw [pair_eq_ok_iff, tagged_iff_isChain, ← forall_tag_iff]
  simp only [opensExtension_eq_true, opensExtension_eq_false, Option.mem_def]

/-- Settles O17: a scan that fails before the last word fails at the word next to it, which would have taken the last one as
its extension; so the words before the last pair. -/
theorem pairFailsExactlyAtALastExtendedHead : Obligations.PairFailsExactlyAtALastExtendedHead := by
  intro ws c
  constructor
  · intro h
    induction ws using List.reverseRecOn generalizing c with
    | nil => cases h
    | append_singleton front last ih =>
      cases hf : pair front with
      | error c' =>
        obtain ⟨front', head, m, rfl, hm, hx, _⟩ := ih c' hf
        have hok : pair (front' ++ [head] ++ [last]) = .ok (m ++ [⟨head, false⟩, ⟨last, true⟩]) := by
          rw [List.append_assoc]
          exact (pairFrom_append hm _).trans (map_eq_ok.mpr ⟨_, pairFrom_extended hx _ last [], rfl⟩)
        cases hok.symm.trans h
      | ok m =>
        have happend := pairFrom_append hf [last]
        cases hx : isExtended last with
        | false =>
          rw [pairFrom_plain hx] at happend
          cases happend.symm.trans h
        | true =>
          rw [pairFrom_extended_last hx, Nat.zero_add] at happend
          cases happend.symm.trans h
          exact ⟨front, last, m, rfl, hf, hx, rfl⟩
  · rintro ⟨front, last, m, rfl, hm, hx, rfl⟩
    rw [pair, pairFrom_append hm, pairFrom_extended_last hx, Nat.zero_add]
    rfl

/-- Settles O18: the words' bytes are the stream, so both are read at the same places. -/
theorem byteStreamIsBigEndianWords : Obligations.ByteStreamIsBigEndianWords := by
  refine ⟨fun bs h => ⟨.length bs.length, by simp [wordsOfBytes, h]⟩, fun bs h => ?_⟩
  have hbytes : (wordsOf (bs.length / 8) bs).flatMap streamBytes = bs := flatMap_streamBytes_wordsOf (by omega)
  refine ⟨wordsOf (bs.length / 8) bs, by simp [wordsOfBytes, h], ?_, fun i j w hj hw => ?_⟩
  · rw [← flatMap_streamBytes_length, hbytes]
  · rw [← streamBytes_getElem? w hj, ← flatMap_streamBytes_getElem? hw hj, hbytes]

end Sys2Proof.Proofs

/-! ASCII input (20_memory.md R42, R43): the characters it reads as digits, the chunks they make, and the pairing scan over chunks
beside the one over words. -/

namespace Sys2Proof.Proofs

open Sys2Proof Sys2Proof.Machine Sys2Proof.Laws

/-! ## Hexadecimal digits in either case (R42, decision D31) -/

/-- What holds of every character number from `a`'s to `b`'s holds of every character between them. -/
theorem of_mem_charRange {P : Char → Prop} {a b c : Char} (hc : a ≤ c ∧ c ≤ b)
    (h : ∀ n < b.toNat + 1, a.toNat ≤ n → P (Char.ofNat n)) : P c := by
  obtain ⟨hlo, hhi⟩ := hc
  exact Char.ofNat_toNat c ▸ h c.toNat (Nat.lt_succ_of_le hhi) hlo

/-- A letter has the value of its lower-case form, digit or not. -/
theorem hexValue_toLower (c : Char) : hexValue c.toLower = hexValue c := by
  by_cases h : 'A' ≤ c ∧ c ≤ 'Z'
  · exact of_mem_charRange (P := fun c => hexValue c.toLower = hexValue c) h (by decide)
  · have hup : ¬ c.isUpper := by simpa [Char.isUpper, Char.le_def] using h
    rw [Char.toLower_eq_of_not_isUpper hup]

/-- A lower-case character that is none of the sixteen digits has no value. -/
theorem hexValue_eq_none {c : Char} (hlow : c.toLower = c) (h : c ∉ "0123456789abcdef".toList) : hexValue c = none := by
  have hdigit : ¬ ('0' ≤ c ∧ c ≤ '9') := fun hr => h (of_mem_charRange hr (by decide))
  have hlower : ¬ ('a' ≤ c ∧ c ≤ 'f') := fun hr => h (of_mem_charRange hr (by decide))
  have hupper : ¬ ('A' ≤ c ∧ c ≤ 'F') := fun hr =>
    of_mem_charRange (P := fun c => c.toLower ≠ c) hr (by decide) hlow
  simp [hexValue, hdigit, hlower, hupper]

theorem hexValue_hexDigit {d : Nat} (hd : d < 16) : hexValue (hexDigit d) = some d := by
  interval_cases d <;> rfl

theorem hexNumber_hexDigit (acc : Nat) {d : Nat} (hd : d < 16) : hexNumber acc [hexDigit d] = some (16 * acc + d) := by
  simp [hexNumber, hexValue_hexDigit hd]

theorem hexNumber_append (acc : Nat) (l r : List Char) :
    hexNumber acc (l ++ r) = (hexNumber acc l).bind (fun n => hexNumber n r) := by
  induction l generalizing acc with
  | nil => rfl
  | cons c l ih => cases hc : hexValue c <;> simp [hexNumber, hc, ih]

theorem hexNumber_map_toLower (acc : Nat) (l : List Char) : hexNumber acc (l.map Char.toLower) = hexNumber acc l := by
  induction l generalizing acc with
  | nil => rfl
  | cons c l ih => cases hc : hexValue c <;> simp [hexNumber, hexValue_toLower, hc, ih]

theorem hexNumber_eq_none {l : List Char} {c : Char} (hc : c ∈ l) (hv : hexValue c = none) (acc : Nat) :
    hexNumber acc l = none := by
  induction l generalizing acc with
  | nil => cases hc
  | cons d l ih =>
    cases hd : hexValue d with
    | none => simp [hexNumber, hd]
    | some v =>
      have hcl : c ∈ l := by
        rcases List.mem_cons.mp hc with rfl | hcl
        · cases hd.symm.trans hv
        · exact hcl
      simp [hexNumber, hd, ih hcl]

/-- The first `n` of a word's sixteen digits write its upper `4 n` bits. -/
theorem hexNumber_nibbles (w : Word) {n : Nat} (hn : n ≤ 16) :
    hexNumber 0 ((List.range n).map (fun k => hexDigit (w.extractLsb' (60 - 4 * k) 4).toNat)) =
      some (w.toNat / 2 ^ (64 - 4 * n)) := by
  induction n with
  | zero => simp [hexNumber, Nat.div_eq_of_lt w.isLt]
  | succ n ih =>
    have hdigit : (w.extractLsb' (60 - 4 * n) 4).toNat < 16 := (w.extractLsb' (60 - 4 * n) 4).isLt
    have hshift : 64 - 4 * n = 60 - 4 * n + 4 := by omega
    have hnext : 64 - 4 * (n + 1) = 60 - 4 * n := by omega
    rw [List.range_succ, List.map_append, hexNumber_append, ih (by omega), hshift, hnext, pow_add, ← Nat.div_div_eq_div_mul]
    rw [List.map_singleton, Option.bind_some, hexNumber_hexDigit _ hdigit, BitVec.extractLsb'_toNat,
      Nat.shiftRight_eq_div_pow]
    exact congrArg some (Nat.div_add_mod _ (2 ^ 4))

/-! ## Chunks (R42) -/

@[simp] theorem hex16_length (w : Word) : (hex16 w).toList.length = 16 := by simp [hex16]

/-- The sixteen digits of a word are read back as the word. -/
theorem chunkWord_hex16 (w : Word) : chunkWord (hex16 w).toList = some w := by
  rw [chunkWord, hex16, String.toList_ofList, hexNumber_nibbles w (Nat.le_refl 16)]
  simp

theorem chunkWord_map_toLower (l : List Char) : chunkWord (l.map Char.toLower) = chunkWord l := by
  rw [chunkWord, hexNumber_map_toLower, chunkWord]

theorem chunksOf_map (f : Char → Char) (n : Nat) (l : List Char) :
    chunksOf n (l.map f) = (chunksOf n l).map (List.map f) := by
  induction n generalizing l with
  | zero => rfl
  | succ n ih => simp [chunksOf, ← List.map_drop, ih]

/-- The first sixteen characters make the first chunk. -/
theorem chunksOf_succ_append {chunk : List Char} (h : chunk.length = 16) (n : Nat) (rest : List Char) :
    chunksOf (n + 1) (chunk ++ rest) = chunk :: chunksOf n rest := by
  rw [chunksOf, ← h, List.take_left, List.drop_left]

/-- The digits of a sequence of words make one chunk a word, and the chunks after them are those of the text after them. -/
theorem chunksOf_words_append (ws : List Word) (n : Nat) (rest : List Char) :
    (chunksOf (ws.length + n) (ws.flatMap (fun w => (hex16 w).toList) ++ rest)).map chunkWord =
      ws.map some ++ (chunksOf n rest).map chunkWord := by
  induction ws with
  | nil => simp
  | cons w ws ih =>
    rw [List.flatMap_cons, List.append_assoc, List.length_cons, Nat.add_right_comm,
      chunksOf_succ_append (hex16_length w)]
    simp [chunkWord_hex16, ih]

theorem flatMap_hex16_length (ws : List Word) : (ws.flatMap (fun w => (hex16 w).toList)).length = 16 * ws.length := by
  simp [List.length_flatMap, Nat.mul_comm]

/-! ## The pairing scan over chunks (R43, decision D31) -/

theorem pairChunks_plain {w : Word} (hw : isExtended w = false) (i : Nat) (cs : List (Option Word)) :
    pairChunks i (some w :: cs) = (pairChunks (i + 1) cs).map (⟨w, false⟩ :: ·) := by
  cases cs with
  | nil => simp [pairChunks, hw, Except.map]
  | cons c cs => cases h : pairChunks (i + 1) (c :: cs) <;> simp [pairChunks, hw, h, Except.map]

theorem pairChunks_extended {w : Word} (hw : isExtended w = true) (i : Nat) (e : Word) (cs : List (Option Word)) :
    pairChunks i (some w :: some e :: cs) = (pairChunks (i + 2) cs).map (⟨w, false⟩ :: ⟨e, true⟩ :: ·) := by
  cases h : pairChunks (i + 2) cs <;> simp [pairChunks, hw, h, Except.map]

/-- Where every chunk is a word the scan is `Pair`'s. -/
theorem pairChunks_words (i : Nat) (ws : List Word) : pairChunks i (ws.map some) = pairFrom i ws := by
  induction i, ws using scan_induction with
  | nil i => rfl
  | plain i w ws hw ih => rw [List.map_cons, pairChunks_plain hw, pairFrom_plain hw, ih]
  | extended i w e ws hw ih => rw [List.map_cons, List.map_cons, pairChunks_extended hw, pairFrom_extended hw, ih]
  | last i w hw => simp [pairChunks, pairFrom, hw]

/-- At the first chunk that is no word the scan ends: with its index where the words before it pair, with the condition of the
head that needs it where they do not. -/
theorem pairChunks_bad_chunk (i : Nat) (ws : List Word) (cs : List (Option Word)) :
    pairChunks i (ws.map some ++ none :: cs) =
      (pairFrom i ws).bind (fun _ => .error (.malformedEncoding (.chunk (i + ws.length)))) := by
  induction i, ws using scan_induction with
  | nil i => rfl
  | plain i w ws hw ih =>
    have hlen : i + 1 + ws.length = i + (w :: ws).length := by rw [List.length_cons]; omega
    rw [List.map_cons, List.cons_append, pairChunks_plain hw, pairFrom_plain hw, ih, hlen]
    cases pairFrom (i + 1) ws <;> rfl
  | extended i w e ws hw ih =>
    have hlen : i + 2 + ws.length = i + (w :: e :: ws).length := by rw [List.length_cons, List.length_cons]; omega
    rw [List.map_cons, List.map_cons, List.cons_append, List.cons_append, pairChunks_extended hw, pairFrom_extended hw, ih,
      hlen]
    cases pairFrom (i + 2) ws <;> rfl
  | last i w hw => simp [pairChunks, pairFrom, hw, Except.bind]

/-! ## The statement on ASCII input -/

/-- The loader reads of a text no more than its digits in lower case. -/
theorem loadAscii_eq (text : String) :
    loadAscii text =
      if (asciiDigits text).length % 16 = 0 then
        pairChunks 0 ((chunksOf ((asciiDigits text).length / 16) (asciiDigits text)).map chunkWord)
      else .error (.malformedEncoding (.length (asciiDigits text).length)) := by
  have hlower : chunkWord ∘ List.map Char.toLower = chunkWord := funext chunkWord_map_toLower
  simp [loadAscii, asciiDigits, chunksOf_map, hlower]

theorem toLower_of_mem_asciiDigits {text : String} {c : Char} (h : c ∈ asciiDigits text) : c.toLower = c := by
  obtain ⟨d, _, rfl⟩ := List.mem_map.mp h
  exact Char.toLower_toLower_eq_toLower d

/-- A text that spells words and then `n` chunks more loads as those words and chunks do. -/
theorem loadAscii_words_append {text : String} {ws : List Word} {rest : List Char} {n : Nat}
    (h : asciiDigits text = ws.flatMap (fun w => (hex16 w).toList) ++ rest) (hrest : rest.length = 16 * n) :
    loadAscii text = pairChunks 0 (ws.map some ++ (chunksOf n rest).map chunkWord) := by
  have hlen : (asciiDigits text).length = 16 * (ws.length + n) := by
    rw [h, List.length_append, flatMap_hex16_length, hrest, Nat.mul_add]
  rw [loadAscii_eq, hlen, if_pos (Nat.mul_mod_right ..), Nat.mul_div_cancel_left _ (by decide), h, chunksOf_words_append]

/-- Settles O19: a text of words is `Pair` of them, and a chunk that is none ends the scan where `Pair` would stand. -/
theorem asciiInputLoadsTheWordsItSpells : Obligations.AsciiInputLoadsTheWordsItSpells := by
  refine ⟨fun ws text h => ?_, fun text h => ?_, fun ws chunk rest text h hchunk hrest hbad => ?_⟩
  · rw [loadAscii_words_append (rest := []) (n := 0) (by rw [h, List.append_nil]) rfl]
    simpa [chunksOf, pair] using pairChunks_words 0 ws
  · rw [loadAscii_eq, if_neg h]
  · obtain ⟨c, hc, hnot⟩ := hbad
    have hlow : c.toLower = c := toLower_of_mem_asciiDigits (text := text) (by rw [h]; simp [hc])
    have hnone : chunkWord chunk = none := by
      rw [chunkWord, hexNumber_eq_none hc (hexValue_eq_none hlow hnot), Option.map_none]
    have hload : loadAscii text =
        (pair ws).bind (fun _ => .error (.malformedEncoding (.chunk ws.length))) := by
      rw [List.append_assoc] at h
      rw [loadAscii_words_append (n := rest.length / 16 + 1) h (by rw [List.length_append]; omega),
        chunksOf_succ_append hchunk, List.map_cons, hnone, pairChunks_bad_chunk, Nat.zero_add]
      rfl
    exact ⟨fun m hm => by rw [hload, hm]; rfl, fun e he => by rw [hload, he]; rfl⟩

end Sys2Proof.Proofs

/-! The stepper's action on the arithmetic instructions (40_arithmetic.md): the nine interpreted operations as arithmetic on
numbers at both widths, and what an interpreted instruction and a stepped-over one answer. -/

namespace Sys2Proof.Proofs

open Sys2Proof Sys2Proof.Machine Sys2Proof.Laws

/-! ## Patterns as numbers (R101) -/

/-- The zero-extended low half of a number's pattern is the number modulo `2^32`. -/
theorem zeroExtend_ofNat (n : Nat) : (BitVec.ofNat 32 n).setWidth 64 = BitVec.ofNat 64 (n % 2 ^ 32) := by
  rw [← BitVec.ofNat_toNat, BitVec.toNat_ofNat]

theorem zeroExtend_ofInt (i : Int) : (BitVec.ofInt 32 i).setWidth 64 = BitVec.ofInt 64 (i % 2 ^ 32) := by
  have hcast : ((BitVec.ofInt 32 i).toNat : Int) = i % 2 ^ 32 := by
    rw [BitVec.toNat_ofInt, Int.toNat_of_nonneg (Int.emod_nonneg i (by decide))]
    rfl
  rw [← BitVec.ofNat_toNat, ← BitVec.ofInt_natCast, hcast]

/-- The sign bits of an extended immediate are above its own 32. -/
theorem signExtend_toNat_mod_low (imm : ImmField) : (imm.signExtend 64).toNat % 2 ^ 32 = imm.toNat := by
  have hlt := imm.isLt
  rw [BitVec.toNat_signExtend, BitVec.toNat_setWidth]
  split <;> omega

/-- A zero-extended 32-bit pattern is below `2^32`. -/
theorem zeroExtend_toNat_lt (v : BitVec 32) : (v.setWidth 64).toNat < 2 ^ 32 := by
  rw [BitVec.toNat_setWidth_of_le (by decide)]
  exact v.isLt

theorem ofInt_sub (n : Nat) (i j : Int) : BitVec.ofInt n (i - j) = BitVec.ofInt n i - BitVec.ofInt n j := by
  rw [Int.sub_eq_add_neg, BitVec.ofInt_add, BitVec.ofInt_neg, BitVec.sub_eq_add_neg]

/-- A pattern of another width stands for its unsigned value, which may be read as an integer. -/
theorem setWidth_eq_ofInt {n : Nat} (m : Nat) (b : BitVec n) : b.setWidth m = BitVec.ofInt m b.toNat := by
  rw [BitVec.ofInt_natCast, BitVec.ofNat_toNat]

/-- Zero-extending the low half clears the upper one. -/
theorem zeroExtend_low (a : Word) : (a.setWidth 32).setWidth 64 = a &&& 0x00000000ffffffff := by
  rw [← BitVec.toNat_inj, BitVec.toNat_setWidth_of_le (by decide), BitVec.toNat_setWidth, BitVec.toNat_and]
  exact (Nat.and_two_pow_sub_one_eq_mod a.toNat 32).symm

/-! ## The shift amount (R117) -/

/-- Where the width is a power of two, masking by the width less 1 takes the amount modulo the width. -/
theorem and_width_sub_one {w k : Nat} (hw : w = 2 ^ k) (b : BitVec w) :
    (b &&& BitVec.ofNat w (w - 1)).toNat = b.toNat % w := by
  subst hw
  have hmask : (2 ^ k - 1) % 2 ^ 2 ^ k = 2 ^ k - 1 :=
    Nat.mod_eq_of_lt (Nat.lt_of_le_of_lt (Nat.sub_le _ _) Nat.lt_two_pow_self)
  rw [BitVec.toNat_and, BitVec.toNat_ofNat, hmask, Nat.and_two_pow_sub_one_eq_mod]

/-- In class ALU the amount is the operand modulo 32, whether the operand is an immediate or a whole register. -/
theorem shift_amount_low {n : Nat} (b : BitVec n) : (b.setWidth 32 &&& BitVec.ofNat 32 (32 - 1)).toNat = b.toNat % 32 := by
  rw [and_width_sub_one (w := 32) (k := 5) rfl, BitVec.toNat_setWidth]
  exact Nat.mod_mod_of_dvd b.toNat (by decide)

theorem shift_amount_wide (b : Word) : (b &&& BitVec.ofNat 64 (64 - 1)).toNat = b.toNat % 64 :=
  and_width_sub_one (w := 64) (k := 6) rfl b

/-- The sign bits of an extended immediate are above the six bits that a shift amount keeps. -/
theorem signExtend_toNat_mod_64 (imm : ImmField) : (imm.signExtend 64).toNat % 64 = imm.toNat % 64 := by
  rw [← Nat.mod_mod_of_dvd _ (show 64 ∣ 2 ^ 32 by decide), signExtend_toNat_mod_low]

theorem shiftLeft_eq_ofNat {n : Nat} (a : BitVec n) (k : Nat) : a <<< k = BitVec.ofNat n (a.toNat * 2 ^ k) := by
  rw [← BitVec.toNat_inj, BitVec.toNat_shiftLeft, BitVec.toNat_ofNat, Nat.shiftLeft_eq]

theorem ushiftRight_eq_ofNat {n : Nat} (a : BitVec n) (k : Nat) : a >>> k = BitVec.ofNat n (a.toNat / 2 ^ k) := by
  rw [← Nat.shiftRight_eq_div_pow, ← BitVec.toNat_ushiftRight, BitVec.ofNat_toNat, BitVec.setWidth_eq]

/-! ## The operations in class ALU: the low 32 bits, zero-extended (decision D25) -/

/-- An operation that takes the patterns of numbers to the pattern of a number does so on the low halves of its operands,
whatever their widths. -/
theorem zeroExtend_on_numbers (f : (w : Nat) → BitVec w → BitVec w → BitVec w) (g : Nat → Nat → Nat)
    (hf : ∀ x y, f 32 (BitVec.ofNat 32 x) (BitVec.ofNat 32 y) = BitVec.ofNat 32 (g x y)) (a : Word) {n : Nat} (b : BitVec n) :
    (f 32 (a.setWidth 32) (b.setWidth 32)).setWidth 64 = BitVec.ofNat 64 (g a.toNat b.toNat % 2 ^ 32) := by
  rw [← BitVec.ofNat_toNat 32 a, ← BitVec.ofNat_toNat 32 b, hf, zeroExtend_ofNat]

section Low

variable (a : Word) {n : Nat} (b : BitVec n)

theorem addBits_low : (addBits 32 (a.setWidth 32) (b.setWidth 32)).setWidth 64 =
    BitVec.ofNat 64 ((a.toNat + b.toNat) % 2 ^ 32) :=
  zeroExtend_on_numbers addBits (· + ·) (fun x y => (BitVec.ofNat_add x y).symm) a b

theorem subBits_low : (subBits 32 (a.setWidth 32) (b.setWidth 32)).setWidth 64 =
    BitVec.ofInt 64 (((a.toNat : Int) - b.toNat) % 2 ^ 32) := by
  rw [subBits, setWidth_eq_ofInt 32 a, setWidth_eq_ofInt 32 b, ← ofInt_sub, zeroExtend_ofInt]

theorem mulBits_low : (mulBits 32 (a.setWidth 32) (b.setWidth 32)).setWidth 64 =
    BitVec.ofNat 64 (a.toNat * b.toNat % 2 ^ 32) :=
  zeroExtend_on_numbers mulBits (· * ·) (fun x y => (BitVec.ofNat_mul x y).symm) a b

theorem orBits_low : (orBits 32 (a.setWidth 32) (b.setWidth 32)).setWidth 64 =
    BitVec.ofNat 64 ((a.toNat ||| b.toNat) % 2 ^ 32) :=
  zeroExtend_on_numbers orBits (· ||| ·) (fun _ _ => BitVec.ofNat_or.symm) a b

theorem andBits_low : (andBits 32 (a.setWidth 32) (b.setWidth 32)).setWidth 64 =
    BitVec.ofNat 64 ((a.toNat &&& b.toNat) % 2 ^ 32) :=
  zeroExtend_on_numbers andBits (· &&& ·) (fun _ _ => BitVec.ofNat_and.symm) a b

theorem xorBits_low : (xorBits 32 (a.setWidth 32) (b.setWidth 32)).setWidth 64 =
    BitVec.ofNat 64 ((a.toNat ^^^ b.toNat) % 2 ^ 32) :=
  zeroExtend_on_numbers xorBits (· ^^^ ·) (fun _ _ => BitVec.ofNat_xor.symm) a b

theorem movBits_low : (movBits 32 (a.setWidth 32) (b.setWidth 32)).setWidth 64 =
    BitVec.ofNat 64 (b.toNat % 2 ^ 32) :=
  zeroExtend_on_numbers movBits (fun _ y => y) (fun _ _ => rfl) a b

theorem lshBits_low : (lshBits 32 (a.setWidth 32) (b.setWidth 32)).setWidth 64 =
    BitVec.ofNat 64 (a.toNat * 2 ^ (b.toNat % 32) % 2 ^ 32) := by
  rw [lshBits, shift_amount_low, shiftLeft_eq_ofNat, zeroExtend_ofNat, BitVec.toNat_setWidth, Nat.mod_mul_mod]

theorem rshBits_low : (rshBits 32 (a.setWidth 32) (b.setWidth 32)).setWidth 64 =
    BitVec.ofNat 64 (a.toNat % 2 ^ 32 / 2 ^ (b.toNat % 32)) := by
  rw [rshBits, shift_amount_low, ← BitVec.ofNat_toNat, BitVec.toNat_ushiftRight, BitVec.toNat_setWidth,
    Nat.shiftRight_eq_div_pow]

end Low

/-! ## The operations in class ALU64: the whole register (decision D25) -/

section Wide

variable (a b : Word) (imm : ImmField)

theorem addBits_wide : addBits 64 a b = BitVec.ofNat 64 (a.toNat + b.toNat) := by
  rw [addBits, BitVec.ofNat_add, BitVec.ofNat_toNat, BitVec.ofNat_toNat, BitVec.setWidth_eq, BitVec.setWidth_eq]

theorem addBits_wide_imm : addBits 64 a (imm.signExtend 64) = BitVec.ofInt 64 (a.toInt + imm.toInt) := by
  rw [addBits, BitVec.ofInt_add, BitVec.ofInt_toInt, BitVec.signExtend]

theorem subBits_wide : subBits 64 a b = BitVec.ofInt 64 ((a.toNat : Int) - b.toNat) := by
  rw [subBits, ofInt_sub, ← setWidth_eq_ofInt, ← setWidth_eq_ofInt, BitVec.setWidth_eq, BitVec.setWidth_eq]

theorem subBits_wide_imm : subBits 64 a (imm.signExtend 64) = BitVec.ofInt 64 (a.toInt - imm.toInt) := by
  rw [subBits, ofInt_sub, BitVec.ofInt_toInt, BitVec.signExtend]

theorem mulBits_wide : mulBits 64 a b = BitVec.ofNat 64 (a.toNat * b.toNat) := by
  rw [mulBits, BitVec.ofNat_mul, BitVec.ofNat_toNat, BitVec.ofNat_toNat, BitVec.setWidth_eq, BitVec.setWidth_eq]

theorem mulBits_wide_imm : mulBits 64 a (imm.signExtend 64) = BitVec.ofInt 64 (a.toInt * imm.toInt) := by
  rw [mulBits, BitVec.ofInt_mul, BitVec.ofInt_toInt, BitVec.signExtend]

theorem lshBits_wide : lshBits 64 a b = BitVec.ofNat 64 (a.toNat * 2 ^ (b.toNat % 64)) := by
  rw [lshBits, shift_amount_wide, shiftLeft_eq_ofNat]

theorem lshBits_wide_imm : lshBits 64 a (imm.signExtend 64) = BitVec.ofNat 64 (a.toNat * 2 ^ (imm.toNat % 64)) := by
  rw [lshBits_wide, signExtend_toNat_mod_64]

theorem rshBits_wide : rshBits 64 a b = BitVec.ofNat 64 (a.toNat / 2 ^ (b.toNat % 64)) := by
  rw [rshBits, shift_amount_wide, ushiftRight_eq_ofNat]

theorem rshBits_wide_imm : rshBits 64 a (imm.signExtend 64) = BitVec.ofNat 64 (a.toNat / 2 ^ (imm.toNat % 64)) := by
  rw [rshBits_wide, signExtend_toNat_mod_64]

end Wide

/-! ## What an arithmetic instruction answers -/

/-- With both operands there, the action is one write of the result at the instruction's width (R101, R118). -/
theorem interpret_eq_wrote {s : State} {dst : RegField} {o : Operand} {a b : Word} (ha : s.reg? dst = some a)
    (hb : o.value s = some b) (w : Width) (f : (n : Nat) → BitVec n → BitVec n → BitVec n) :
    s.interpret w f dst o = s.wrote dst (w.apply f a b) := by
  rcases interpret_cases s w f dst o with ⟨a', b', ha', hb', hi⟩ | ⟨hnone, _⟩
  · cases ha.symm.trans ha'
    cases hb.symm.trans hb'
    exact hi
  · simp [ha, hb] at hnone

/-- Class ALU reads an immediate as it stands: the sign bits of its extension are above the low 32. -/
theorem apply_w32_imm (f : (n : Nat) → BitVec n → BitVec n → BitVec n) (a : Word) (imm : ImmField) :
    Width.w32.apply f a (imm.signExtend 64) = (f 32 (a.setWidth 32) (imm.setWidth 32)).setWidth 64 := by
  have hlow : (imm.signExtend 64).setWidth 32 = imm.setWidth 32 := by
    rw [BitVec.setWidth_eq, ← BitVec.toNat_inj, BitVec.toNat_setWidth, signExtend_toNat_mod_low]
  rw [Width.apply, hlow]

/-- The four forms of one operation write its result at 32 bits, of an operand of either width, and at 64 bits, of a
sign-extended immediate and of a register (R101, decision D25). -/
theorem interpret_four_forms {s : State} {dst : RegField} {a : Word} (ha : s.reg? dst = some a)
    {f : (n : Nat) → BitVec n → BitVec n → BitVec n} {low : (n : Nat) → BitVec n → Word} {wide : Word → Word}
    {wideImm : ImmField → Word}
    (hlow : ∀ {n : Nat} (b : BitVec n), (f 32 (a.setWidth 32) (b.setWidth 32)).setWidth 64 = low n b)
    (hwideImm : ∀ imm : ImmField, f 64 a (imm.signExtend 64) = wideImm imm) (hwide : ∀ b : Word, f 64 a b = wide b) :
    (∀ imm, s.interpret .w32 f dst (.k imm) = s.wrote dst (low 32 imm) ∧
      s.interpret .w64 f dst (.k imm) = s.wrote dst (wideImm imm)) ∧
    (∀ src b, s.reg? src = some b →
      s.interpret .w32 f dst (.x src) = s.wrote dst (low 64 b) ∧
      s.interpret .w64 f dst (.x src) = s.wrote dst (wide b)) := by
  refine ⟨fun imm => ⟨?_, ?_⟩, fun src b hb => ⟨?_, ?_⟩⟩
  · rw [interpret_eq_wrote ha (o := .k imm) rfl, apply_w32_imm, hlow]
  · rw [interpret_eq_wrote ha (o := .k imm) rfl, Width.apply, hwideImm]
  · rw [interpret_eq_wrote ha (o := .x src) hb, Width.apply, hlow]
  · rw [interpret_eq_wrote ha (o := .x src) hb, Width.apply, hwide]

/-- Where an interpreted instruction of class ALU completes, its destination holds a zero-extended pattern (decision D25). -/
theorem interpret_w32_zero_extended {s t : State} {f : (n : Nat) → BitVec n → BitVec n → BitVec n} {dst : RegField}
    {o : Operand} (h : s.interpret .w32 f dst o = .next t) (hok : t.result = .ok) :
    ∃ v, t.reg? dst = some v ∧ v.toNat < 2 ^ 32 := by
  rcases interpret_cases s .w32 f dst o with ⟨a, b, ha, _, hi⟩ | ⟨_, hi⟩ <;> cases hi.symm.trans h
  · exact ⟨Width.w32.apply f a b, by rw [reg?_completed, reg?_setReg_self, ha]; rfl, zeroExtend_toNat_lt _⟩
  · cases hok

/-- An instruction that indexes no register is stepped over (R206). -/
theorem exec_eq_skipped {i : Instr} (h : i.registers = []) (s : State) : exec i s = s.skipped (instrSlots i) := by
  rcases exec_cases i with ⟨_, he⟩ | ⟨_, _, dst, o, hr, _⟩
  · exact he s
  · cases hr.symm.trans h

/-- Writing a register's own value changes nothing (R118). -/
theorem setReg_reg?_self {s : State} {r : RegField} {a : Word} (h : s.reg? r = some a) : s.setReg r a = s := by
  have hx : s.x.setIfInBounds r.toNat a = s.x := by
    obtain ⟨_, hget⟩ := Vector.getElem?_eq_some_iff.mp h
    refine Vector.ext fun i hi => ?_
    rw [Vector.getElem_setIfInBounds hi]
    split
    case isTrue heq =>
      subst heq
      exact hget.symm
    case isFalse => rfl
  rw [State.setReg, hx]

/-- A completed step that writes a register its own value writes none (R118). -/
theorem wrote_self {s : State} {r : RegField} {a : Word} (h : s.reg? r = some a) : s.wrote r a = s.skipped 1 :=
  congrArg (fun u : State => (.next (u.completed 1) : Result)) (setReg_reg?_self h)

/-! ## The statements -/

/-- Settles O33: as patterns of numbers, or of signed integers, sums go to sums. -/
theorem addWritesTheSum : Obligations.AddWritesTheSum :=
  fun _ _ a ha => interpret_four_forms ha (addBits_low a) (addBits_wide_imm a) (addBits_wide a)

/-- Settles O34: the patterns of the two operands as integers, the difference taken before the pattern. -/
theorem subWritesTheDifference : Obligations.SubWritesTheDifference :=
  fun _ _ a ha => interpret_four_forms ha (subBits_low a) (subBits_wide_imm a) (subBits_wide a)

/-- Settles O35: the pattern of a product keeps its low bits. -/
theorem mulWritesTheLowProduct : Obligations.MulWritesTheLowProduct :=
  fun _ _ a ha => interpret_four_forms ha (mulBits_low a) (mulBits_wide_imm a) (mulBits_wide a)

/-- Settles O38: a shift to the left is a product by a power of two whose low bits are kept. -/
theorem lshMasksTheAmount : Obligations.LshMasksTheAmount :=
  fun _ _ a ha => interpret_four_forms ha (lshBits_low a) (lshBits_wide_imm a) (lshBits_wide a)

/-- Settles O39: a logical shift to the right is a quotient, which needs no bits of the upper half in class ALU. -/
theorem rshIsLogicalAndMasksTheAmount : Obligations.RshIsLogicalAndMasksTheAmount :=
  fun _ _ a ha => interpret_four_forms ha (rshBits_low a) (rshBits_wide_imm a) (rshBits_wide a)

/-- Settles O36: at 64 bits the operation is the union of the patterns, and `signExtend` is the pattern of the signed value. -/
theorem orWritesTheUnion : Obligations.OrWritesTheUnion :=
  fun _ _ a ha => interpret_four_forms ha (orBits_low a) (fun _ => rfl) (fun _ => rfl)

/-- Settles O37, at 64 bits as the intersection of the patterns themselves. -/
theorem andWritesTheIntersection : Obligations.AndWritesTheIntersection :=
  fun _ _ a ha => interpret_four_forms ha (andBits_low a) (fun _ => rfl) (fun _ => rfl)

/-- Settles O40, at 64 bits as the exclusive or of the patterns themselves. -/
theorem xorWritesTheDifferenceOfBits : Obligations.XorWritesTheDifferenceOfBits :=
  fun _ _ a ha => interpret_four_forms ha (xorBits_low a) (fun _ => rfl) (fun _ => rfl)

/-- Settles O41: a destination that exists holds some value, which MOV does not use; an immediate is below `2^32` as it
stands. -/
theorem movWritesTheOperand : Obligations.MovWritesTheOperand := by
  intro s dst hdst
  obtain ⟨a, ha⟩ := Option.isSome_iff_exists.mp ((reg?_isSome s dst).trans (decide_eq_true (Nat.lt_succ_of_le hdst)))
  obtain ⟨himm, hreg⟩ := interpret_four_forms ha (movBits_low a) (fun _ => rfl) (fun _ => rfl)
  refine ⟨fun imm => ?_, hreg⟩
  have hsmall : imm.toNat % 2 ^ 32 = imm.toNat := Nat.mod_eq_of_lt imm.isLt
  rw [← hsmall]
  exact himm imm

/-- Settles O42: both operands are the one old value `a`, and the rest is arithmetic on `a` with itself; MOV writes back what
the register held. -/
theorem sameRegisterReadsBeforeItWrites : Obligations.SameRegisterReadsBeforeItWrites := by
  intro s r a ha
  have hwrites := interpret_eq_wrote ha (o := .x r) ha
  refine ⟨(hwrites .w64 addBits).trans ?_, (hwrites .w64 subBits).trans ?_, (hwrites .w64 xorBits).trans ?_,
    (hwrites .w64 mulBits).trans ?_, (hwrites .w64 movBits).trans ?_, (hwrites .w32 addBits).trans ?_,
    (hwrites .w32 mulBits).trans ?_, (hwrites .w32 subBits).trans ?_, (hwrites .w32 xorBits).trans ?_,
    (hwrites .w32 movBits).trans ?_⟩
  · rw [Width.apply, addBits, two_mul]
  · rw [Width.apply, subBits, BitVec.sub_self]
    rfl
  · rw [Width.apply, xorBits, BitVec.xor_self]
    rfl
  · rw [Width.apply, mulBits, pow_two]
  · rw [Width.apply, movBits, wrote_self ha]
    rfl
  · rw [Width.apply, addBits_low, two_mul]
  · rw [Width.apply, mulBits_low, pow_two]
  · rw [Width.apply, subBits, BitVec.sub_self]
    rfl
  · rw [Width.apply, xorBits, BitVec.xor_self]
    rfl
  · rw [Width.apply, movBits, zeroExtend_low]

/-- Settles O43: each of the eighteen is the action `interpret` at width 32. -/
theorem thirtyTwoBitResultsAreZeroExtended : Obligations.ThirtyTwoBitResultsAreZeroExtended := by
  intro s t dst src imm
  simp only [List.forall_mem_cons, List.not_mem_nil, false_imp_iff, implies_true, and_true]
  and_intros
  all_goals exact interpret_w32_zero_extended

/-- Settles O29: none of the thirty-six indexes a register, and each takes one slot. -/
theorem uninterpretedArithmeticIsSteppedOver : Obligations.UninterpretedArithmeticIsSteppedOver := by
  intro s dst src imm i hi
  have hshape : i.registers = [] ∧ instrSlots i = 1 := by
    revert i
    simp only [List.forall_mem_cons, List.not_mem_nil, false_imp_iff, implies_true, and_true]
    and_intros
    all_goals rfl
  obtain ⟨hregs, hslots⟩ := hshape
  rw [exec_eq_skipped hregs, hslots]

end Sys2Proof.Proofs

/-! The jump class of 41_jump.md: this machine interprets none of its forms (R146), so each indexes no register and is
stepped over as one slot. -/

namespace Sys2Proof.Proofs

open Sys2Proof Sys2Proof.Machine Sys2Proof.Laws

/-- Forms that index no register and take `n` slots each are stepped over by `n` slots (R206). -/
theorem forall_exec_eq_skipped {forms : List Instr} {n : BitVec Config.pcWidth}
    (h : ∀ i ∈ forms, i.registers = [] ∧ instrSlots i = n) (s : State) : ∀ i ∈ forms, exec i s = s.skipped n := by
  intro i hi
  obtain ⟨hregs, hslots⟩ := h i hi
  rw [exec_eq_skipped hregs, hslots]

/-- Settles O30: every interpreted instruction indexes its destination register (R206), and none of the seventy-six forms
indexes one, so each is stepped over, as the one slot it takes. -/
theorem jumpsCallsAndExitAreSteppedOver : Obligations.JumpsCallsAndExitAreSteppedOver := by
  intro s dst src off imm
  refine forall_exec_eq_skipped ?_ s
  simp only [List.forall_mem_cons, List.not_mem_nil, false_imp_iff, implies_true, and_true]
  and_intros
  all_goals rfl

end Sys2Proof.Proofs

/-! The load and store classes of 42_load_store.md: this machine interprets none of their forms (R187), so each indexes no
register and is stepped over, a 64-bit immediate load as the two slots it takes (R207). -/

namespace Sys2Proof.Proofs

open Sys2Proof Sys2Proof.Machine Sys2Proof.Laws

/-- The register lists and slot counts of a list of forms, row by row, decide that each is stepped over by `n` slots (R206). -/
theorem forall_exec_eq_skipped_of_rows {forms : List Instr} {n : BitVec Config.pcWidth}
    (h : forms.map (fun i => (i.registers, instrSlots i)) = List.replicate forms.length ([], n)) (s : State) :
    ∀ i ∈ forms, exec i s = s.skipped n :=
  forall_exec_eq_skipped (fun i hi => Prod.mk.inj (List.map_eq_replicate_iff.mp h i hi)) s

/-- Settles O31: none of the seventy-seven forms indexes a register in this machine, whatever register its text names, and each
takes one slot. -/
theorem loadsStoresAndAtomicsAreSteppedOver : Obligations.LoadsStoresAndAtomicsAreSteppedOver := by
  intro s dst src off imm cls size fetch
  exact forall_exec_eq_skipped_of_rows rfl s

/-- Settles O32: the eight selectors index no register, and each carries an extension slot, which the step passes over too. -/
theorem immediateLoadsAreSteppedOverByTwoSlots : Obligations.ImmediateLoadsAreSteppedOverByTwoSlots := by
  intro s dst src imm nextImm cls size
  exact forall_exec_eq_skipped_of_rows rfl s

end Sys2Proof.Proofs

/-! The decoder of 30_encoding.md answers well-formed instructions only (R55, R74): an operand that a row does not admit has a row
of its own. -/

namespace Sys2Proof.Proofs

open Sys2Proof

/-- An immediate with a bit outside 0xf1, or with none of the six operations in its bits 7 to 4, names no atomic operation
(R177, R185, decision D7). -/
theorem not_namesAtomicOp {imm : ImmField}
    (h : imm &&& 0xffffff0e ≠ 0 ∨ (imm &&& 0xf0).toNat ∉ [0xe0, 0xf0, 0x00, 0x40, 0x50, 0xa0]) :
    (!namesAtomicOp imm) = true := by
  rw [Bool.not_eq_true', Bool.eq_false_iff]
  intro hnamed
  simp only [namesAtomicOp, List.contains_iff_mem, List.mem_cons, List.not_mem_nil, or_false] at hnamed
  rcases hnamed with rfl | rfl | rfl | rfl | rfl | rfl | rfl | rfl | rfl | rfl | rfl | rfl <;> exact absurd h (by decide)

/-- Of two rows that the decoder chooses between, each is well-formed where it is chosen. -/
theorem wellFormed_ite {p : Prop} [Decidable p] {i j : Instr} (hi : p → i.wellFormed = true)
    (hj : ¬ p → j.wellFormed = true) : (if p then i else j).wellFormed = true := by
  split
  case isTrue h => exact hi h
  case isFalse h => exact hj h

/-- DIV and MOD of a `src` field of 0 have rows of their own (R105, R111). -/
theorem decodeArith_wellFormed (c : ArithClass) (sel : Source) (k : ArithCode) (w : Word) :
    (decodeArith c sel k w).wellFormed = true := by
  cases k
  case div | mod => cases c <;> cases sel <;> exact wellFormed_ite (fun _ => rfl) bne_iff_ne.mpr
  all_goals (cases c <;> cases sel <;> rfl)

/-- The selectors 0, 1 and 2 of CALL have rows of their own (R143). -/
theorem decodeJump_wellFormed (c : JumpClass) (sel : Source) (k : JumpCode) (w : Word) :
    (decodeJump c sel k w).wellFormed = true := by
  cases k
  case call =>
    have hother (h0 : srcOf w ≠ 0) (h1 : srcOf w ≠ 1) (h2 : srcOf w ≠ 2) : 2 < (srcOf w).toNat := by bv_omega
    cases c <;> cases sel <;>
      exact wellFormed_ite (fun _ => rfl) fun h0 => wellFormed_ite (fun _ => rfl) fun h1 =>
        wellFormed_ite (fun _ => rfl) fun h2 => decide_eq_true (hother h0 h1 h2)
  all_goals (cases c <;> cases sel <;> rfl)

/-- The selectors 0 to 6 of mode IMM have rows of their own (R168). -/
theorem decodeImm_wellFormed (c : LSClass) (z : Size) (w e : Word) : (decodeImm c z w e).wellFormed = true := by
  unfold decodeImm
  split
  case h_8 h0 h1 h2 h3 h4 h5 h6 =>
    simp only [imp_false] at h0 h1 h2 h3 h4 h5 h6
    have hother : 6 < (srcOf w).toNat := by omega
    exact decide_eq_true hother
  all_goals rfl

/-- The immediates that name an operation have rows of their own, at size W (R185). -/
theorem decodeAtomicW_wellFormed (w : Word) : (decodeAtomicW w).wellFormed = true := by
  unfold decodeAtomicW
  split
  case isTrue hbits => exact not_namesAtomicOp (.inl hbits)
  case isFalse =>
    split
    case h_1 | h_2 => rfl
    case h_7 => exact not_namesAtomicOp (.inr (by simp_all))
    all_goals exact wellFormed_ite (fun _ => rfl) (fun _ => rfl)

/-- The same at size DW (R185). -/
theorem decodeAtomicDw_wellFormed (w : Word) : (decodeAtomicDw w).wellFormed = true := by
  unfold decodeAtomicDw
  split
  case isTrue hbits => exact not_namesAtomicOp (.inl hbits)
  case isFalse =>
    split
    case h_1 | h_2 => rfl
    case h_7 => exact not_namesAtomicOp (.inr (by simp_all))
    all_goals exact wellFormed_ite (fun _ => rfl) (fun _ => rfl)

/-- An atomic word of a wrong class is W or DW and not STX (R177). -/
theorem decodeAtomic_wellFormed (c : LSClass) (z : Size) (w : Word) : (decodeAtomic c z w).wellFormed = true := by
  cases z <;> cases c
  case w.stx => exact decodeAtomicW_wellFormed w
  case dw.stx => exact decodeAtomicDw_wellFormed w
  all_goals rfl

theorem decodeLoadStore_wellFormed (c : LSClass) (m : Mode) (z : Size) (w e : Word) :
    (decodeLoadStore c m z w e).wellFormed = true := by
  cases m
  case imm => exact decodeImm_wellFormed c z w e
  case atomic => exact decodeAtomic_wellFormed c z w
  all_goals (cases z <;> cases c <;> rfl)

theorem decodeWords_wellFormed (w e : Word) : (decodeWords w e).wellFormed = true := by
  unfold decodeWords
  cases toTyped (opcodeOf w) with
  | arithmetic c sel k => exact decodeArith_wellFormed c sel k w
  | jump c sel k => exact decodeJump_wellFormed c sel k w
  | loadStore c m z => exact decodeLoadStore_wellFormed c m z w e

end Sys2Proof.Proofs

/-! The stepper of 45_stepper.md: what a step answers at the end of the program and at a head, from any state; when an instruction
is refused; the bytes at `pc` as the instruction that a step runs; and runs of a whole program. -/

namespace Sys2Proof.Proofs

open Sys2Proof Sys2Proof.Machine Sys2Proof.Laws

/-! ## At the end of the program (R204, R210) -/

theorem step_at_end {s : State} (h : s.prog[s.pc.toNat]? = none) : step s = .next (s.raise .endOfProgram) := by
  simp [step, State.executeStep, h]

theorem nextInstruction_at_end {s : State} (h : s.prog[s.pc.toNat]? = none) :
    s.nextInstruction = .ok (.condition .endOfProgram) := by
  simp [State.nextInstruction, h]

/-- What `NextInstruction` peeks is handed back with the state it was given (R203). -/
theorem operate_nextInstruction_of_ok {s : State} {r : Response} (h : s.nextInstruction = .ok r) :
    operate .nextInstruction s = .next (s, r) := by
  simp [operate, h]

/-- In Halted there is no slot to fetch (R209). -/
theorem no_slot_of_halted {s : State} (hI : s.Inv) (h : s.state = .halted) : s.prog[s.pc.toNat]? = none :=
  List.getElem?_eq_none_iff.mpr (hI.halted h).ge

/-- Where the stepper is Halted already, halting again changes no more than the value handed back. -/
theorem step_of_halted {s : State} (hend : s.prog[s.pc.toNat]? = none) (h : s.state = .halted) :
    step s = .next { s with result := .endOfProgram } := by
  rw [step_at_end hend, State.raise, ← h]

/-! ## At a head, from any state -/

/-- `NextInstruction` peeks the instruction that is fetched (R203). -/
theorem nextInstruction_of_fetch {s : State} {head : Slot} {ins : Instruction} (h : s.prog[s.pc.toNat]? = some head)
    (hi : instrAt s.prog s.pc.toNat head = .ok ins) : s.nextInstruction = .ok (.instruction ins) := by
  simp [State.nextInstruction, h, hi]

/-- A step is the action of the instruction that is fetched (R204). -/
theorem step_of_fetch {s : State} {head : Slot} {ins : Instruction} (h : s.prog[s.pc.toNat]? = some head)
    (hi : instrAt s.prog s.pc.toNat head = .ok ins) : step s = exec ins.decoded s := by
  simp [step, State.executeStep, h, hi]

/-- A step that is answered where there is a slot is the action of the instruction fetched there (R204). -/
theorem exec_of_step_next {s t : State} {head : Slot} (h : s.prog[s.pc.toNat]? = some head) (ht : step s = .next t) :
    ∃ ins, instrAt s.prog s.pc.toNat head = .ok ins ∧ exec ins.decoded s = .next t := by
  rcases executeStep_cases s exec with ⟨hend, _⟩ | ⟨_, f, _, _, hs⟩ | ⟨head', ins, hhead', hi, hs⟩
  · cases h.symm.trans (List.getElem?_eq_none_iff.mpr hend)
  · cases hs.symm.trans ht
  · cases h.symm.trans hhead'
    exact ⟨ins, hi, hs.symm.trans ht⟩

/-- An instruction completes past its slots, or hands back `InvalidRegister` and leaves `pc` (R205, R207). -/
theorem exec_next_pc {i : Instr} {s t : State} (h : exec i s = .next t) :
    (t.result = .ok ∧ t.state = .running ∧ t.pc = s.pc + instrSlots i) ∨ (t.result = .invalidRegister ∧ t.pc = s.pc) := by
  rcases exec_next i s with ⟨_, he⟩ | ⟨dst, _, v, _, _, hone, he⟩ | ⟨_, he⟩ <;> cases he.symm.trans h
  · exact .inl ⟨rfl, rfl, rfl⟩
  · exact .inl ⟨rfl, rfl, by simp [hone]⟩
  · exact .inr ⟨rfl, rfl⟩

/-! ## The register check (R205) -/

theorem registersExist_eq_false_iff (i : Instr) : i.registersExist = false ↔ ∃ r ∈ i.registers, 10 < r.toNat := by
  simp only [Instr.registersExist, List.all_eq_false, decide_eq_true_eq, Nat.not_lt]
  rfl

/-- The register check alone decides whether an instruction is refused: one that passes it completes, and so hands back OK. -/
theorem exec_eq_refused_iff (i : Instr) (s : State) :
    exec i s = .next (s.raise .invalidRegister) ↔ i.registersExist = false := by
  rcases exec_next i s with ⟨hr, he⟩ | ⟨dst, _, v, _, hexist, _, he⟩ | ⟨hmissing, he⟩
  · have hexist : i.registersExist = true := by simp [Instr.registersExist, hr]
    simp [he, hexist, State.raise, State.completed]
  · simp [he, hexist, State.raise, State.completed]
  · simp [he, hmissing]

/-! ## The bytes at `pc` (R33, R36) -/

theorem bytes_cons (head : Slot) (rest : Memory) :
    Memory.bytes (head :: rest) = streamBytes head.word ++ Memory.bytes rest :=
  List.flatMap_cons

/-- An extended basic word with no word after it does not decode (R37). -/
theorem decode_extended_last {w : Word} (h : isExtended w = true) :
    decode (streamBytes w ++ Memory.bytes []) = .error .missingExtensionWord := by
  simp only [decode, takeWord_streamBytes, h, if_true]
  rfl

/-- A head from which the store's bytes decode is fetched, as the instruction they decode to: both readings take the word after
an extended head. -/
theorem fetch_of_decode {m : Memory} {k : Nat} {head : Slot} {i : Instr} {rest : List Byte} (h : m[k]? = some head)
    (hhead : head.isExtSlot = false) (hd : decode (Memory.bytes (m.drop k)) = .ok (i, rest)) :
    ∃ ins, instrAt m k head = .ok ins ∧ ins.decoded = i := by
  rw [(drop_of_getElem? h).2, bytes_cons] at hd
  rcases instrAt_cases m k head with ⟨hx, _⟩ | ⟨_, hx, hi⟩ | ⟨_, hx, hnone, _⟩ | ⟨e, _, hx, he, hi⟩
  · cases hhead.symm.trans hx
  · rw [decode_basic hx] at hd
    cases hd
    exact ⟨_, hi, rfl⟩
  · rw [List.drop_eq_nil_of_le (List.getElem?_eq_none_iff.mp hnone), decode_extended_last hx] at hd
    cases hd
  · rw [(drop_of_getElem? he).2, bytes_cons, decode_extended hx] at hd
    cases hd
    exact ⟨_, hi, rfl⟩

/-! ## Runs -/

/-- A run, then one step more at its end. -/
theorem run_succ_of_run {M : Host.Core} {k : Nat} {s t u : M.State} (hrun : M.run k s = .next t)
    (hstep : M.step t = .next u) : M.run (k + 1) s = .next u := by
  induction k generalizing s with
  | zero =>
    cases hrun
    exact run_succ hstep 0
  | succ k ih =>
    cases hfirst : M.step s with
    | next v =>
      rw [run_succ hfirst] at hrun ⊢
      exact ih hrun
    | fault f => simp [Host.Core.run, hfirst] at hrun
    | refused r => simp [Host.Core.run, hfirst] at hrun

/-- A run stays at a state that the step answers with itself. -/
theorem run_of_step_self {M : Host.Core} {s : M.State} (h : M.step s = .next s) (k : Nat) : M.run k s = .next s := by
  induction k with
  | zero => rfl
  | succ k ih => rw [run_succ h, ih]

/-- The instructions of a store from slot `k` on: one for each head slot. -/
def headsFrom (m : Memory) (k : Nat) : Nat := (m.drop k).countP (fun slot => !slot.isExtSlot)

/-- All the instructions of a store: its slots less its extension slots (R208). -/
theorem headsFrom_zero (m : Memory) : headsFrom m 0 = Memory.slotCount m - m.countP Slot.isExtSlot := by
  have hsplit := m.length_eq_countP_add_countP Slot.isExtSlot
  simp only [decide_not, Bool.decide_eq_true] at hsplit
  simp only [headsFrom, List.drop_zero, Memory.slotCount]
  omega

/-- Moving past the slots of the head at `pc` leaves one instruction less (R207). -/
theorem headsFrom_past_head {s : State} (hI : s.Inv) {head : Slot} (h : s.prog[s.pc.toNat]? = some head) :
    headsFrom s.prog s.pc.toNat =
      headsFrom s.prog (s.pc + (if isExtended head.word then 2 else 1)).toNat + 1 := by
  obtain ⟨ins, hi, _⟩ := step_at_head hI h
  have hhead := (instrAt_ok hi).1
  rw [pc_add_toNat s.pc _ (pc_add_two_lt hI h), headsFrom, (drop_of_getElem? h).2]
  rcases fetch_of_inv s hI head h with ⟨hx, _, _⟩ | ⟨e, hx, he, hext, _, _⟩
  · simp [headsFrom, hx, hhead]
  · rw [(drop_of_getElem? he).2]
    simp [headsFrom, hx, hhead, hext]

/-- There is a slot to fetch as long as an instruction is left. -/
theorem no_slot_iff {s : State} (hI : s.Inv) :
    s.prog[s.pc.toNat]? = none ↔ headsFrom s.prog s.pc.toNat = 0 := by
  cases h : s.prog[s.pc.toNat]? with
  | none => simp [headsFrom, List.drop_eq_nil_of_le (List.getElem?_eq_none_iff.mp h)]
  | some head => simp [headsFrom_past_head hI h]

/-- Where every instruction passes the register check a step below `L` completes (R204, R205). -/
theorem step_completes {s : State} (hI : s.Inv) (hregs : Memory.registersExist s.prog) {head : Slot}
    (h : s.prog[s.pc.toNat]? = some head) :
    ∃ x, step s = .next (State.completed { s with x := x } (if isExtended head.word then 2 else 1)) := by
  rcases step_cases hI with ⟨hend, _⟩ | ⟨_, _, hs⟩ | ⟨head', x, hhead', hs⟩
  · exact absurd (drop_of_getElem? h).1 hend.ge.not_gt
  · obtain ⟨ins, hi, he⟩ := step_at_head hI h
    have hmissing := (exec_eq_refused_iff _ s).mp (he.symm.trans hs)
    cases (hregs _ head ins h hi).symm.trans hmissing
  · cases h.symm.trans hhead'
    exact ⟨x, hs⟩

/-- After as many steps as there are instructions, or fewer, each was completed and that many fewer are left. -/
theorem run_completes {s : State} (hI : s.Inv) (hregs : Memory.registersExist s.prog) {k : Nat}
    (hk : k ≤ headsFrom s.prog s.pc.toNat) :
    ∃ t, core.run k s = .next t ∧ t.Inv ∧ t.prog = s.prog ∧
      headsFrom s.prog s.pc.toNat = headsFrom t.prog t.pc.toNat + k ∧ (0 < k → t.result = .ok ∧ t.state = .running) := by
  induction k with
  | zero => exact ⟨s, rfl, hI, rfl, rfl, fun h => absurd h (lt_irrefl 0)⟩
  | succ k ih =>
    obtain ⟨t, hrun, htI, hprog, hleft, _⟩ := ih (Nat.le_of_succ_le hk)
    have hsome : t.prog[t.pc.toNat]? ≠ none := fun hnone => by
      rw [(no_slot_iff htI).mp hnone] at hleft
      omega
    obtain ⟨head, hhead⟩ := Option.ne_none_iff_exists'.mp hsome
    obtain ⟨x, hstep⟩ := step_completes htI (hprog ▸ hregs) hhead
    have hpast := headsFrom_past_head htI hhead
    refine ⟨_, run_succ_of_run hrun hstep, completed_inv htI hhead x, hprog, ?_, fun _ => ⟨rfl, rfl⟩⟩
    rw [hleft, hpast, completed_prog, completed_pc, Nat.add_right_comm, Nat.add_assoc]

/-! ## The statements -/

/-- Settles O48, by `step_next_inv`: the step that is answered is the one that keeps the invariant. -/
theorem stepKeepsTheInvariant : Obligations.StepKeepsTheInvariant := by
  intro s t hI ht
  obtain ⟨u, hu, huI⟩ := step_next_inv hI
  cases hu.symm.trans ht
  exact huI

/-- Settles O22, by the fetch in a state with the invariant. -/
theorem nextInstructionPeeks : Obligations.NextInstructionPeeks := by
  intro s hI
  refine ⟨fun hend => ?_, fun head hhead => ?_⟩
  · exact operate_nextInstruction_of_ok (nextInstruction_at_end (List.getElem?_eq_none_iff.mpr hend))
  · rcases fetch_of_inv s hI head hhead with ⟨hx, hi, _⟩ | ⟨e, hx, he, _, hi, _⟩
    · exact ⟨_, operate_nextInstruction_of_ok (nextInstruction_of_fetch hhead hi), rfl, hx.symm, by simp [hx]⟩
    · exact ⟨_, operate_nextInstruction_of_ok (nextInstruction_of_fetch hhead hi), rfl, hx.symm, by simp [hx, he]⟩

/-- Settles O25: a Halted state whose last step ended the program is answered with itself. -/
theorem haltedIsAbsorbing : Obligations.HaltedIsAbsorbing := by
  intro s hI hhalted
  have hend := no_slot_of_halted hI hhalted
  refine ⟨fun k => ?_, nextInstruction_at_end hend, fun p => loadProgram_state s p, reset_state⟩
  have hself := step_of_halted (s := { s with result := .endOfProgram }) hend hhalted
  rw [run_succ (M := core) (step_of_halted hend hhalted)]
  exact run_of_step_self (M := core) hself k

/-- Settles O26: a step is the action of the instruction fetched, which takes as many slots as its head announces. -/
theorem pcAdvancesPastTheInstruction : Obligations.PcAdvancesPastTheInstruction := by
  intro s
  refine ⟨fun head t hhead ht => ?_, fun t hend ht => ?_, fun t r h => ?_, fun t r p h => ?_, fun t r h => ?_⟩
  · obtain ⟨ins, hi, he⟩ := exec_of_step_next hhead ht
    rw [← instrSlots_fetched hi]
    exact exec_next_pc he
  · cases (step_at_end hend).symm.trans ht
    exact raise_pc s _
  · rw [operate_nextInstruction_next h]
  · rw [operate_loadProgram_next h, loadProgram_pc]
  · rw [operate_reset_next h, reset_pc]

/-- Settles O28: the register check does not look at the state, so a refused instruction is refused again. -/
theorem invalidRegisterExactlyWhenARegisterIsMissing : Obligations.InvalidRegisterExactlyWhenARegisterIsMissing := by
  intro i s
  simp only [← registersExist_eq_false_iff]
  exact ⟨(exec_eq_refused_iff i s).symm, (exec_eq_refused_iff i _).mpr⟩

/-- Settles O51: from slot 0 there are `L - n` instructions left, and none at `L`. -/
theorem programTakesOneStepPerInstruction : Obligations.ProgramTakesOneStepPerInstruction := by
  intro s hI hpc hregs
  have hcount : headsFrom s.prog s.pc.toNat = Memory.slotCount s.prog - s.prog.countP Slot.isExtSlot := by
    rw [hpc]
    exact headsFrom_zero s.prog
  rw [← hcount]
  refine ⟨fun k hpos hk => ?_, ?_⟩
  · obtain ⟨t, hrun, _, _, _, hok⟩ := run_completes hI hregs hk
    exact ⟨t, hrun, hok hpos⟩
  · obtain ⟨t, hrun, htI, hprog, hleft, _⟩ := run_completes hI hregs le_rfl
    have hend : t.prog[t.pc.toNat]? = none := (no_slot_iff htI).mpr (Nat.right_eq_add.mp hleft)
    exact ⟨t, hrun, by rw [← hprog, pc_eq_slotCount htI hend], step_at_end hend⟩

/-- Settles O15: the bytes decode to the instruction that is fetched, and the decoder answers well-formed instructions only. -/
theorem stepRunsTheDecodedInstruction : Obligations.StepRunsTheDecodedInstruction := by
  intro s head i rest h hhead hd
  obtain ⟨ins, hi, rfl⟩ := fetch_of_decode h hhead hd
  exact ⟨decodeWords_wellFormed _ _, step_of_fetch h hi⟩

/-- Settles O21, by what `LoadProgram` writes. -/
theorem loadProgramKeepsTheRegisters : Obligations.LoadProgramKeepsTheRegisters := by
  intro s p
  exact ⟨s.loadProgram p, rfl, loadProgram_prog s p, loadProgram_pc s p, loadProgram_state s p, fun _ => rfl⟩

/-- Settles O23: past the last slot the fetch finds nothing. -/
theorem stepAtTheEndHalts : Obligations.StepAtTheEndHalts :=
  fun _ hend => step_at_end (List.getElem?_eq_none_iff.mpr hend)

/-- Settles O47: the empty program is one that `Pair` makes, and its start is its end. -/
theorem invariantHoldsAtReset : Obligations.InvariantHoldsAtReset := reset_inv

end Sys2Proof.Proofs

/-! The conditions of 60_exceptions.md: what ends a listing, by the listing of a store from a slot on, which
passes over the slots before the first refused one that the host does not skip; and `EndOfProgram` of the stepper. -/

namespace Sys2Proof.Proofs

open Sys2Proof Sys2Proof.Machine Sys2Proof.Laws

/-! ## `Render` on an Instruction (R20, R87) -/

theorem renderArithmetic_ne_notAnInstruction (c : ArithClass) (sel : Source) (k : ArithCode) (w : Word) :
    renderArithmetic c sel k w ≠ .notAnInstruction := by
  cases k with
  | div | mod =>
    simp only [renderArithmetic]
    split <;> simp
  | _ => simp [renderArithmetic]

theorem renderCall_ne_notAnInstruction (w : Word) : renderCall w ≠ .notAnInstruction := by
  unfold renderCall
  split <;> simp

theorem renderJump_ne_notAnInstruction (c : JumpClass) (sel : Source) (k : JumpCode) (w : Word) :
    renderJump c sel k w ≠ .notAnInstruction := by
  cases k with
  | call => exact renderCall_ne_notAnInstruction w
  | _ => simp [renderJump, renderConditional]

theorem renderImm_ne_notAnInstruction (w e : Word) : renderImm w (some e) ≠ .notAnInstruction := by
  simp only [renderImm]
  split <;> simp

theorem renderAtomicOp_ne_notAnInstruction (op : String) (z : Size) (w : Word) :
    renderAtomicOp op z w ≠ .notAnInstruction := by
  unfold renderAtomicOp
  split <;> simp

theorem renderAtomic_ne_notAnInstruction (c : LSClass) (z : Size) (w : Word) : renderAtomic c z w ≠ .notAnInstruction := by
  unfold renderAtomic
  split_ifs
  · simp
  · simp
  · simp
  · split <;> simp [renderAtomicOp_ne_notAnInstruction]

/-- `Render` has a result on a load/store Instruction: in mode IMM because the extension word is there. -/
theorem renderLoadStore_ne_notAnInstruction (c : LSClass) (m : Mode) (z : Size) (w : Word) {extension : Option Word}
    (h : m = .imm → extension.isSome = true) : renderLoadStore c m z w extension ≠ .notAnInstruction := by
  cases m with
  | imm =>
    obtain ⟨e, rfl⟩ := Option.isSome_iff_exists.mp (h rfl)
    exact renderImm_ne_notAnInstruction w e
  | atomic => exact renderAtomic_ne_notAnInstruction c z w
  | mem => cases c <;> simp [renderLoadStore, renderMem]
  | memsx => cases c <;> simp [renderLoadStore, renderMemsx]
  | abs | ind | mode5 | mode7 => simp [renderLoadStore]

/-- `Render` is total on the records that meet the invariant of R20. -/
theorem render_ne_notAnInstruction {ins : Instruction} (h : ins.wf = true) : render ins ≠ .notAnInstruction := by
  simp only [Instruction.wf, Bool.and_eq_true, beq_iff_eq] at h
  obtain ⟨hext, hsome⟩ := h
  rw [hext, isExtended, opExtended] at hsome
  unfold render
  cases ht : toTyped (opcodeOf ins.basic) with
  | arithmetic c sel k => exact renderArithmetic_ne_notAnInstruction c sel k _
  | jump c sel k => exact renderJump_ne_notAnInstruction c sel k _
  | loadStore c m z =>
    refine renderLoadStore_ne_notAnInstruction c m z _ ?_
    rintro rfl
    simpa [ht] using hsome

/-! ## The slots of a paired store (R20, R36, R37) -/

/-- In a store that `Pair` made, `Instr(i)` is defined for every head slot: an extended one is not the last. -/
theorem instrAt_of_pair {ws : List Word} {m : Memory} (hm : pair ws = .ok m) {i : Nat} {head : Slot} (h : m[i]? = some head)
    (hhead : head.isExtSlot = false) : ∃ ins, instrAt m i head = .ok ins := by
  obtain ⟨_, _, hlast⟩ := (pairTagsExactlyTheExtensionSlots ws m).mp hm
  rcases instrAt_cases m i head with ⟨hx, _⟩ | ⟨_, _, hi⟩ | ⟨_, hx, hnext, _⟩ | ⟨e, _, _, _, hi⟩
  · cases hhead.symm.trans hx
  · exact ⟨_, hi⟩
  · have hlen : i = m.length - 1 := by
      have := (drop_of_getElem? h).1
      have := List.getElem?_eq_none_iff.mp hnext
      omega
    have hplain := hlast head (by rw [List.getLast?_eq_getElem?, ← hlen, h]) hhead
    cases hplain.symm.trans hx
  · exact ⟨_, hi⟩

/-! ## The listing, slot by slot (R93, R237, R238) -/

/-- The listing of a program from slot `i` on, in the width of the whole program. -/
def listingFrom (choice : Nat → OnUnsupported) (cfg : LineConfig) (m : Memory) (i : Nat) : Listing :=
  listFrom choice cfg (indexWidth (Memory.slotCount m)) i (m.drop i)

/-- A listing with lines put before its own. -/
def linesThen (lines : List String) (l : Listing) : Listing := ⟨lines ++ l.lines, l.ended⟩

@[simp] theorem linesThen_lines (lines : List String) (l : Listing) : (linesThen lines l).lines = lines ++ l.lines := rfl
@[simp] theorem linesThen_ended (lines : List String) (l : Listing) : (linesThen lines l).ended = l.ended := rfl

theorem linesThen_linesThen (front back : List String) (l : Listing) :
    linesThen front (linesThen back l) = linesThen (front ++ back) l := by
  simp [linesThen]

/-- The listing does not end at slot `i`: its Instruction, where it has one, is not invalid, and the host skips it when it is
unsupported. -/
def PassedOver (choice : Nat → OnUnsupported) (m : Memory) (i : Nat) : Prop :=
  ∀ head ins, m[i]? = some head → instrAt m i head = .ok ins →
    (∀ r, render ins ≠ .invalid r) ∧ (∀ r, render ins = .unsupported r → choice i = .skip)

section
variable {choice : Nat → OnUnsupported} {cfg : LineConfig} {m : Memory} {i : Nat} {head : Slot} {ins : Instruction}

theorem lineAt_of_ext (h : m[i]? = some head) (hx : head.isExtSlot = true) : lineAt cfg m i = none := by
  simp [lineAt, h, instrAt, hx]

theorem lineAt_of_render_ok (h : m[i]? = some head) (hi : instrAt m i head = .ok ins) {t : String} (ht : render ins = .ok t) :
    lineAt cfg m i = some (indexText cfg i (indexWidth (Memory.slotCount m)) ++ dumpText cfg ins ++ t) := by
  simp [lineAt, h, hi, renderLine, ht]

theorem lineAt_of_unsupported (h : m[i]? = some head) (hi : instrAt m i head = .ok ins) {r : UnsupportedReason}
    (hr : render ins = .unsupported r) : lineAt cfg m i = none := by
  simp [lineAt, h, hi, renderLine, hr]

/-- At an `InvalidOpcode` the listing ends, whatever the host's choice (R238). -/
theorem listingFrom_of_invalid (h : m[i]? = some head) (hi : instrAt m i head = .ok ins) {r : InvalidReason}
    (hr : render ins = .invalid r) : listingFrom choice cfg m i = ⟨[], .invalidOpcode r (some i)⟩ := by
  have hdrop := (drop_of_getElem? h).2
  rw [listingFrom, hdrop]
  rcases listFrom_head choice cfg _ hdrop hi with ⟨_, hr', _⟩ | ⟨_, hr', _⟩ | ⟨_, hr', _⟩ | ⟨_, hr', hl⟩ | ⟨hr', _⟩ <;>
    cases hr.symm.trans hr'
  exact hl

/-- At an `UnsupportedEncoding` where the host aborts the listing ends (R237). -/
theorem listingFrom_of_abort (h : m[i]? = some head) (hi : instrAt m i head = .ok ins) {r : UnsupportedReason}
    (hr : render ins = .unsupported r) (hc : choice i = .abort) :
    listingFrom choice cfg m i = ⟨[], .unsupportedEncoding r (some i)⟩ := by
  have hdrop := (drop_of_getElem? h).2
  rw [listingFrom, hdrop]
  rcases listFrom_head choice cfg _ hdrop hi with
    ⟨_, hr', _⟩ | ⟨_, _, hc', _⟩ | ⟨_, hr', _, hl⟩ | ⟨_, hr', _⟩ | ⟨hr', _⟩
  · cases hr.symm.trans hr'
  · cases hc.symm.trans hc'
  · cases hr.symm.trans hr'
    exact hl
  · cases hr.symm.trans hr'
  · cases hr.symm.trans hr'

/-- A slot that is passed over gives the line it has, if any, and the listing goes on at the next slot. -/
theorem listingFrom_of_passedOver {ws : List Word} (hm : pair ws = .ok m) (h : m[i]? = some head)
    (hp : PassedOver choice m i) :
    listingFrom choice cfg m i = linesThen (lineAt cfg m i).toList (listingFrom choice cfg m (i + 1)) := by
  have hdrop := (drop_of_getElem? h).2
  unfold listingFrom
  cases hx : head.isExtSlot with
  | true =>
    rw [hdrop, listFrom_ext choice cfg _ i _ hx, lineAt_of_ext h hx]
    rfl
  | false =>
    obtain ⟨ins, hi⟩ := instrAt_of_pair hm h hx
    obtain ⟨hvalid, hskip⟩ := hp head ins h hi
    rw [hdrop]
    rcases listFrom_head choice cfg _ hdrop hi with
      ⟨t, ht, hl⟩ | ⟨r, hr, _, hl⟩ | ⟨r, hr, habort, _⟩ | ⟨r, hr, _⟩ | ⟨hr, _⟩
    · rw [hl, lineAt_of_render_ok h hi ht]
      rfl
    · rw [hl, lineAt_of_unsupported h hi hr]
      rfl
    · cases (hskip r hr).symm.trans habort
    · exact absurd hr (hvalid r)
    · obtain ⟨_, _, _, hwf⟩ := instrAt_ok hi
      exact absurd hr (render_ne_notAnInstruction hwf)

/-- Where all slots before slot `i` are passed over, the listing has the lines of those slots and goes on at slot `i`. -/
theorem listing_eq_of_passedOver {ws : List Word} (hm : pair ws = .ok m) (hi : i ≤ m.length)
    (hp : ∀ j < i, PassedOver choice m j) :
    listing choice cfg m = linesThen ((List.range i).filterMap (lineAt cfg m)) (listingFrom choice cfg m i) := by
  induction i with
  | zero => rfl
  | succ i ih =>
    rw [ih (by omega) (fun j hj => hp j (by omega)),
      listingFrom_of_passedOver hm (List.getElem?_eq_getElem hi) (hp i (by omega)), linesThen_linesThen,
      List.range_succ, List.filterMap_append]
    cases hl : lineAt cfg m i <;> simp [hl]

end

/-! ## The statements -/

/-- Settles O60: the slots before slot `i` are passed over, and the listing from slot `i` on is its condition alone. -/
theorem invalidOpcodeEndsTheListing : Obligations.InvalidOpcodeEndsTheListing := by
  intro ws m choice cfg i head ins hm h hi hbefore
  have hlisting := listing_eq_of_passedOver (cfg := cfg) hm (drop_of_getElem? h).1.le
    (fun j hj head ins hhead hins => hbefore j head ins hj hhead hins)
  refine ⟨fun r hr => ?_, fun r hr hc => ?_⟩
  · simp [hlisting, listingFrom_of_invalid h hi hr]
  · simp [hlisting, listingFrom_of_abort h hi hr hc]

/-- Settles O24: past the last slot both operations raise it; before it they answer an Instruction, a fault, or what an
instruction hands back, which is OK or `InvalidRegister`. -/
theorem endOfProgramExactlyAtTheEnd : Obligations.EndOfProgramExactlyAtTheEnd := by
  intro s
  refine ⟨⟨fun h => ?_, fun hend => nextInstruction_at_end (List.getElem?_eq_none_iff.mpr hend)⟩,
    ⟨?_, fun hend => ⟨_, step_at_end (List.getElem?_eq_none_iff.mpr hend), raise_result s _⟩⟩⟩
  · rcases nextInstruction_cases s with ⟨hend, _⟩ | ⟨_, _, _, _, hr⟩ | ⟨_, _, _, _, hr⟩
    · exact List.getElem?_eq_none_iff.mp hend
    · cases hr.symm.trans h
    · cases hr.symm.trans h
  · rintro ⟨t, ht, hresult⟩
    rcases executeStep_cases s exec with ⟨hend, _⟩ | ⟨_, _, _, _, hs⟩ | ⟨_, ins, _, _, hs⟩
    · exact hend
    · cases hs.symm.trans ht
    · rcases exec_next_completed_or_refused (hs.symm.trans ht) with ⟨hok, _⟩ | rfl
      · cases hok.symm.trans hresult
      · cases hresult

end Sys2Proof.Proofs

/-! The length of the texts of `Render` (decision D33): how long a text of each text primitive can be, what each family's
texts add up to, and the five worked words of 95_test_vectors.md section 1. -/

namespace Sys2Proof.Proofs

open Sys2Proof Sys2Proof.Machine

/-! ## The text primitives (30_encoding.md section 7.1) -/

/-- A number below `10 ^ k` has at most `k` decimal digits (R80). -/
theorem decNat_length_le {n k : Nat} (hk : 0 < k) (hn : n < 10 ^ k) : (decNat n).toList.length ≤ k := by
  simpa [decNat] using Nat.toDigits_length 10 n k hk hn

/-- Of the texts of `dec`, only that of a negative number has a character more than its digits. -/
theorem dec_length_le {n : Int} {k : Nat} (hk : 0 < k) (hn : n.natAbs < 10 ^ k) : (dec n).toList.length ≤ k + 1 := by
  have hdigits := decNat_length_le hk hn
  unfold dec
  split <;> simp <;> omega

theorem dec_length_le_of_nonneg {n : Int} {k : Nat} (hk : 0 < k) (h : 0 ≤ n) (hn : n.natAbs < 10 ^ k) :
    (dec n).toList.length ≤ k := by
  rw [dec, if_neg (by omega)]
  exact decNat_length_le hk hn

theorem reg_length_le (r : RegField) : (reg r).toList.length ≤ 3 := by
  have hdigits : (decNat r.toNat).toList.length ≤ 2 := decNat_length_le (by decide) (by omega)
  simp [reg]
  omega

/-- The magnitude of a signed value is at most half the number of patterns. -/
theorem two_mul_natAbs_toInt_le {n : Nat} (v : BitVec n) : 2 * v.toInt.natAbs ≤ 2 ^ n := by
  have hlow := BitVec.le_two_mul_toInt (x := v)
  have hhigh := BitVec.two_mul_toInt_lt (x := v)
  have hpow : ((2 ^ n : Nat) : Int) = 2 ^ n := Nat.cast_pow 2 n
  omega

theorem dec_imm_length_le (imm : ImmField) : (dec imm.toInt).toList.length ≤ 11 := by
  have hmag := two_mul_natAbs_toInt_le imm
  exact dec_length_le (k := 10) (by decide) (by omega)

theorem dec_imm64_length_le (v : Word) : (dec v.toInt).toList.length ≤ 20 := by
  have hmag := two_mul_natAbs_toInt_le v
  exact dec_length_le (k := 19) (by decide) (by omega)

theorem operandText_length_le (sel : Source) (w : Word) : (operandText sel w).toList.length ≤ 11 := by
  cases sel with
  | k => exact dec_imm_length_le (immOf w)
  | x => exact (reg_length_le (srcOf w)).trans (by decide)

theorem off_natAbs_lt (o : OffField) : o.toInt.natAbs < 10 ^ 5 := by
  have hmag := two_mul_natAbs_toInt_le o
  omega

theorem sdec_off_length_le (o : OffField) : (sdec o.toInt).toList.length ≤ 6 := by
  unfold sdec
  split
  · exact dec_length_le (by decide) (off_natAbs_lt o)
  · have hdigits := dec_length_le_of_nonneg (by decide) (by omega) (off_natAbs_lt o)
    simp
    omega

theorem offMag_length_le (o : OffField) : (offMag o.toInt).toList.length ≤ 5 := by
  have habs := off_natAbs_lt o
  unfold offMag
  split <;> exact dec_length_le_of_nonneg (by decide) (by omega) (by omega)

theorem offOp_length (o : Int) : (offOp o).toList.length = 1 := by
  unfold offOp
  split <;> rfl

theorem addrText_length_le (base : RegField) (o : OffField) : (addrText base o).toList.length ≤ 13 := by
  have hbase := reg_length_le base
  have hmag := offMag_length_le o
  simp [addrText, offOp_length]
  omega

theorem usize_length_le (z : Size) : (usize z).toList.length ≤ 3 := by cases z <;> decide

theorem ssize_length_le (z : Size) : (ssize z).toList.length ≤ 3 := by cases z <;> decide

theorem memText_length_le {qualifier : String} (hq : qualifier.toList.length ≤ 3) (base : RegField) (o : OffField) :
    (memText qualifier base o).toList.length ≤ 21 := by
  have haddr := addrText_length_le base o
  simp [memText]
  omega

theorem maskText_length (c : ArithClass) : (maskText c).toList.length = 4 := by cases c <;> rfl

/-! ## The families -/

/-- A text, where there is one, has at most `n` characters. They are counted in the text's list, which `simp` computes for a
literal. -/
def TextWithin (n : Nat) (r : RenderResult) : Prop := ∀ t, r = .ok t → t.toList.length ≤ n

@[simp] theorem textWithin_ok {n : Nat} {t : String} : TextWithin n (.ok t) ↔ t.toList.length ≤ n := by simp [TextWithin]

@[simp] theorem textWithin_unsupported (n : Nat) (r : UnsupportedReason) : TextWithin n (.unsupported r) := nofun

@[simp] theorem textWithin_invalid (n : Nat) (r : InvalidReason) : TextWithin n (.invalid r) := nofun

@[simp] theorem textWithin_notAnInstruction (n : Nat) : TextWithin n .notAnInstruction := nofun

theorem TextWithin.mono {m n : Nat} {r : RenderResult} (h : TextWithin m r) (hmn : m ≤ n) : TextWithin n r :=
  fun t ht => (h t ht).trans hmn

/-- The longest are the texts of ARSH. -/
theorem renderArithmetic_textWithin (c : ArithClass) (sel : Source) (k : ArithCode) (w : Word) :
    TextWithin 29 (renderArithmetic c sel k w) := by
  have hdst := reg_length_le (dstOf w)
  have hsrc := reg_length_le (srcOf w)
  have hoperand := operandText_length_le sel w
  have hmask := maskText_length c
  cases k with
  | div | mod =>
    simp only [renderArithmetic]
    split <;> simp <;> omega
  | end_ | codeE | codeF => simp [renderArithmetic]
  | _ =>
    simp [renderArithmetic]
    omega

theorem jumpTarget_length_le (w : Word) : (jumpTarget w).toList.length ≤ 6 := sdec_off_length_le (offOf w)

theorem renderConditional_textWithin {op : String} (hop : op.toList.length ≤ 3) (sel : Source) (w : Word) :
    TextWithin 34 (renderConditional op sel w) := by
  have hdst := reg_length_le (dstOf w)
  have hoperand := operandText_length_le sel w
  have htarget := jumpTarget_length_le w
  simp [renderConditional]
  omega

theorem renderCall_textWithin (w : Word) : TextWithin 16 (renderCall w) := by
  have himm := dec_imm_length_le (immOf w)
  have htarget := jumpTarget_length_le w
  unfold renderCall
  split <;> simp <;> omega

/-- The longest are the texts of the conditional jumps with the operators `s>=` and `s<=`. -/
theorem renderJump_textWithin (c : JumpClass) (sel : Source) (k : JumpCode) (w : Word) :
    TextWithin 34 (renderJump c sel k w) := by
  cases k with
  | call => exact (renderCall_textWithin w).mono (by decide)
  | ja =>
    have htarget := jumpTarget_length_le w
    simp [renderJump]
    omega
  | exit | codeE | codeF => simp [renderJump]
  | _ => exact renderConditional_textWithin (by decide) sel w

/-- The longest are the texts of the value of a map by its index, which show two immediates. -/
theorem renderImm_textWithin (w : Word) (extension : Option Word) : TextWithin 52 (renderImm w extension) := by
  cases extension with
  | none => simp [renderImm]
  | some e =>
    have hdst := reg_length_le (dstOf w)
    have himm := dec_imm_length_le (immOf w)
    have hnext := dec_imm_length_le (immOf e)
    have himm64 := dec_imm64_length_le (imm64Of w e)
    simp only [renderImm]
    split <;> simp <;> omega

theorem renderMem_textWithin (c : LSClass) (z : Size) (w : Word) : TextWithin 35 (renderMem c z w) := by
  have hdst := reg_length_le (dstOf w)
  have hsrc := reg_length_le (srcOf w)
  have himm := dec_imm_length_le (immOf w)
  have hload := memText_length_le (usize_length_le z) (srcOf w) (offOf w)
  have hstore := memText_length_le (usize_length_le z) (dstOf w) (offOf w)
  cases c <;> simp [renderMem] <;> omega

theorem renderMemsx_textWithin (c : LSClass) (z : Size) (w : Word) : TextWithin 27 (renderMemsx c z w) := by
  have hdst := reg_length_le (dstOf w)
  have hload := memText_length_le (ssize_length_le z) (srcOf w) (offOf w)
  cases c with
  | ldx =>
    simp [renderMemsx]
    omega
  | ld | st | stx => simp [renderMemsx]

theorem renderAtomicOp_textWithin {op : String} (hop : op.toList.length = 2) (z : Size) (w : Word) :
    TextWithin 28 (renderAtomicOp op z w) := by
  have hsrc := reg_length_le (srcOf w)
  have hmem := memText_length_le (usize_length_le z) (dstOf w) (offOf w)
  unfold renderAtomicOp
  split
  · simp
  · simp
    omega

theorem renderAtomic_textWithin (c : LSClass) (z : Size) (w : Word) : TextWithin 28 (renderAtomic c z w) := by
  unfold renderAtomic
  split_ifs
  · simp
  · simp
  · simp
  · split <;> simp [renderAtomicOp_textWithin]

theorem renderLoadStore_textWithin (c : LSClass) (m : Mode) (z : Size) (w : Word) (extension : Option Word) :
    TextWithin 52 (renderLoadStore c m z w extension) := by
  cases m with
  | imm => exact renderImm_textWithin w extension
  | mem => exact (renderMem_textWithin c z w).mono (by decide)
  | memsx => exact (renderMemsx_textWithin c z w).mono (by decide)
  | atomic => exact (renderAtomic_textWithin c z w).mono (by decide)
  | abs | ind | mode5 | mode7 => simp [renderLoadStore]

theorem render_textWithin (ins : Instruction) : TextWithin 52 (render ins) := by
  unfold render
  cases toTyped (opcodeOf ins.basic) with
  | arithmetic c sel k => exact (renderArithmetic_textWithin c sel k _).mono (by decide)
  | jump c sel k => exact (renderJump_textWithin c sel k _).mono (by decide)
  | loadStore c m z => exact renderLoadStore_textWithin c m z _ _

/-! ## The statements -/

/-- Settles O54: `TEXT_MAX` is 64, so the bound of 52 characters is below it. -/
theorem textsAreAtMostFiftyTwoCharacters : Obligations.TextsAreAtMostFiftyTwoCharacters := by
  intro ins t ht
  have hlength : t.length ≤ 52 := String.length_toList (s := t) ▸ render_textWithin ins t ht
  exact ⟨hlength, hlength.trans (by decide)⟩

/-- Settles O14: each word is evaluated by the decoder. -/
theorem sourceVectorsDecode : Obligations.SourceVectorsDecode :=
  ⟨rfl, rfl, rfl, rfl, rfl⟩

end Sys2Proof.Proofs

/-! The BitfieldCodec and the OpcodeClassifier of 30_encoding.md, sections 2 and 3: the fields of a word as numbers and as their
bytes put together, and what the parts of an opcode byte say. -/

namespace Sys2Proof.Proofs

open Sys2Proof Sys2Proof.Machine Sys2Proof.Laws

/-! ## Fields (R51 to R54, R59) -/

theorem toNat_extractLsb' (w : Word) (start len : Nat) : (w.extractLsb' start len).toNat = w.toNat / 2 ^ start % 2 ^ len := by
  rw [BitVec.extractLsb'_toNat, Nat.shiftRight_eq_div_pow]

/-- Reading a pattern as signed subtracts `2 ^ n` from its upper half (R53, R54). -/
theorem toInt_eq_ite {n : Nat} (v : BitVec (n + 1)) :
    v.toInt = if v.toNat < 2 ^ n then (v.toNat : Int) else v.toNat - 2 ^ (n + 1) := by
  have hpow : 2 ^ (n + 1) = 2 * 2 ^ n := Nat.pow_succ'
  have hhalf : 2 * v.toNat < 2 ^ (n + 1) ↔ v.toNat < 2 ^ n := by omega
  rw [BitVec.toInt_eq_toNat_cond]
  simp only [hhalf, Nat.cast_pow, Nat.cast_ofNat]

/-- The bounds of a signed pattern. -/
theorem toInt_bounds {n : Nat} (v : BitVec (n + 1)) : -2 ^ n ≤ v.toInt ∧ v.toInt ≤ 2 ^ n - 1 :=
  ⟨BitVec.le_toInt v, Int.le_sub_one_of_lt (BitVec.toInt_lt (x := v))⟩

/-- The two bytes of the Offset field, shifted to their places, share no bit. -/
theorem low_and_shifted_byte (a b : Byte) : b.setWidth 16 &&& (a.setWidth 16 <<< 8) = 0 := by
  apply BitVec.eq_of_getLsbD_eq
  intro i hi
  simp only [BitVec.getLsbD_and, BitVec.getLsbD_setWidth, BitVec.getLsbD_shiftLeft]
  by_cases hlow : i < 8
  · simp [hlow]
  · simp [BitVec.getLsbD_of_ge b i (by omega)]

/-- OR and XOR agree on patterns that share no bit. -/
theorem xor_eq_or_of_and_eq_zero {n : Nat} {x y : BitVec n} (h : x &&& y = 0) : x ^^^ y = x ||| y := by
  apply BitVec.eq_of_getLsbD_eq
  intro i hi
  have hbit : (x.getLsbD i && y.getLsbD i) = false := by rw [← BitVec.getLsbD_and, h]; exact BitVec.getLsbD_zero
  rw [BitVec.getLsbD_xor, BitVec.getLsbD_or]
  revert hbit
  cases x.getLsbD i <;> cases y.getLsbD i <;> decide

theorem offOf_eq_or (w : Word) :
    offOf w = (w.extractLsb' 40 8).setWidth 16 ||| ((w.extractLsb' 32 8).setWidth 16 <<< 8) := by
  have hlow : (w.extractLsb' 32 16).extractLsb' 0 8 = w.extractLsb' 32 8 := by
    ext i hi
    have hi' : i < 16 := by omega
    simp [hi']
  have hhigh : (w.extractLsb' 32 16).extractLsb' 8 8 = w.extractLsb' 40 8 := by
    ext i hi
    have hi' : 8 + i < 16 := by omega
    simp [hi', ← Nat.add_assoc]
  rw [offOf, swap16, hlow, hhigh, BitVec.or_comm, ← BitVec.setWidth_append_eq_shiftLeft_setWidth_or, BitVec.setWidth_eq]

theorem immOf_eq_or (w : Word) : immOf w =
    (w.extractLsb' 24 8).setWidth 32 ||| ((w.extractLsb' 16 8).setWidth 32 <<< 8) |||
      ((w.extractLsb' 8 8).setWidth 32 <<< 16) ||| ((w.extractLsb' 0 8).setWidth 32 <<< 24) := by
  apply BitVec.eq_of_getLsbD_eq
  intro i hi
  simp only [immOf, swap32, BitVec.getLsbD_append, BitVec.getLsbD_extractLsb', BitVec.getLsbD_or, BitVec.getLsbD_setWidth,
    BitVec.getLsbD_shiftLeft]
  interval_cases i <;> simp

/-- Shifted up by its own width, a pattern shows no bit of its extension. -/
theorem signExtend_shiftLeft (v : ImmField) : v.signExtend 64 <<< 32 = v.setWidth 64 <<< 32 := by
  apply BitVec.eq_of_getLsbD_eq
  intro i hi
  simp only [BitVec.getLsbD_shiftLeft, BitVec.getLsbD_signExtend, BitVec.getLsbD_setWidth]
  by_cases hlow : i < 32
  · simp [hlow]
  · have hi' : i - 32 < 32 := by omega
    simp [hi, hi', Nat.lt_trans hi' (by decide : 32 < 64)]

/-! ## The statements -/

/-- Settles O1: each field is a digit of the word as a number. -/
theorem opcodeByteAndRegisterNibbles : Obligations.OpcodeByteAndRegisterNibbles := by
  intro w
  have hw := w.isLt
  simp only [opcodeOf, srcOf, dstOf, toNat_extractLsb']
  omega

/-- Settles O2: the two bytes share no bit, so XOR puts them together as OR does. -/
theorem offsetIsLittleEndianAndSigned : Obligations.OffsetIsLittleEndianAndSigned := by
  intro w
  refine ⟨offOf_eq_or w, ?_, toInt_eq_ite (offOf w), toInt_bounds (offOf w)⟩
  rw [offOf_eq_or, xor_eq_or_of_and_eq_zero (low_and_shifted_byte _ _)]

/-- Settles O3. -/
theorem immIsLittleEndianAndSigned : Obligations.ImmIsLittleEndianAndSigned :=
  fun w => ⟨immOf_eq_or w, toInt_eq_ite (immOf w), toInt_bounds (immOf w)⟩

/-- Settles O4: `Imm64` is the two patterns joined. -/
theorem immediateLowHalfDoesNotSignExtend : Obligations.ImmediateLowHalfDoesNotSignExtend := by
  intro basic ext
  constructor
  · rw [signExtend_shiftLeft, ← BitVec.setWidth_append_eq_shiftLeft_setWidth_or, BitVec.setWidth_eq]
    rfl
  · have happend := BitVec.toInt_append (x := immOf ext) (y := immOf basic)
    rw [if_neg (by decide), mul_comm] at happend
    exact happend

/-- Settles O5: the class is a one-to-one function of three bits, which a byte's low bits can be any of. -/
theorem classIsTheLowThreeBitsAndSourceIsBitThree : Obligations.ClassIsTheLowThreeBitsAndSourceIsBitThree := by
  have hinj : ∀ a b : BitVec 3, classOfBits a = classOfBits b → a = b := by decide
  refine ⟨fun op op' => ⟨hinj _ _, congrArg classOfBits⟩, fun c => ?_, by decide +kernel⟩
  exact ⟨BitVec.ofNat 8 c.ctorIdx, by cases c <;> rfl⟩

/-- Settles O6, on each of the 256 opcode bytes. -/
theorem extendedOpcodesAreLoadStoreModeImm : Obligations.ExtendedOpcodesAreLoadStoreModeImm := by
  unfold Obligations.ExtendedOpcodesAreLoadStoreModeImm
  decide +kernel

end Sys2Proof.Proofs

/-! The encoder and the decoder of 30_encoding.md are inverse: a word put together from fields decodes by its typed opcode,
and the fields that the decoder's selections look at are those the encoder wrote (R50, R71). -/

namespace Sys2Proof.Proofs

open Sys2Proof Sys2Proof.Machine Sys2Proof.Laws

/-! ## The immediate of an atomic operation (R177, R183, R184, decision D7) -/

/-- The three parts the decoder looks at: the bits outside 0xf1, the operation, the fetch bit. -/
theorem imm_eq_parts (imm : ImmField) : imm = (imm &&& 0xffffff0e) ||| (imm &&& 0xf0) ||| (imm &&& 1) := by
  rw [← BitVec.and_or_distrib_left, ← BitVec.and_or_distrib_left]
  exact BitVec.and_allOnes.symm

theorem imm_eq_fetchImm {imm : ImmField} (hbits : imm &&& 0xffffff0e = 0) {op : Nat} (hop : (imm &&& 0xf0).toNat = op) :
    imm = fetchImm (BitVec.ofNat 32 op) (imm.getLsbD 0) := by
  have hop' : imm &&& 0xf0 = BitVec.ofNat 32 op := by rw [← hop, BitVec.ofNat_toNat, BitVec.setWidth_eq]
  have hfetch : imm &&& 1 = (BitVec.ofBool (imm.getLsbD 0)).setWidth 32 := BitVec.and_one_eq_setWidth_ofBool_getLsbD
  calc imm = (imm &&& 0xffffff0e) ||| (imm &&& 0xf0) ||| (imm &&& 1) := imm_eq_parts imm
    _ = BitVec.ofNat 32 op ||| (BitVec.ofBool (imm.getLsbD 0)).setWidth 32 := by rw [hbits, hop', hfetch]; simp
    _ = fetchImm (BitVec.ofNat 32 op) (imm.getLsbD 0) := by cases imm.getLsbD 0 <;> simp [fetchImm]

/-- An immediate of the decoder's six operations is one of the twelve. -/
theorem operation_of_not_named {imm : ImmField} (h : namesAtomicOp imm = false) (hbits : imm &&& 0xffffff0e = 0) :
    (imm &&& 0xf0).toNat ∉ [0xe0, 0xf0, 0x00, 0x40, 0x50, 0xa0] := by
  have hnamed (op : ImmField) (hop : namesAtomicOp (fetchImm op false) = true ∧ namesAtomicOp (fetchImm op true) = true)
      (b : Bool) : namesAtomicOp (fetchImm op b) = true := by
    cases b
    · exact hop.1
    · exact hop.2
  intro hop
  rw [imm_eq_fetchImm hbits rfl] at h
  simp only [List.mem_cons, List.not_mem_nil, or_false] at hop
  rcases hop with hop | hop | hop | hop | hop | hop <;>
    (rw [hop, hnamed _ (by decide)] at h; cases h)

theorem decodeAtomicW_of_not_named {w : Word} (h : namesAtomicOp (immOf w) = false) :
    decodeAtomicW w = .stxAtomicWOpOther (immOf w) := by
  unfold decodeAtomicW
  split
  case isTrue => rfl
  case isFalse hbits =>
    have hop := operation_of_not_named h (not_not.mp hbits)
    split <;> simp_all

theorem decodeAtomicDw_of_not_named {w : Word} (h : namesAtomicOp (immOf w) = false) :
    decodeAtomicDw w = .stxAtomicDwOpOther (immOf w) := by
  unfold decodeAtomicDw
  split
  case isTrue => rfl
  case isFalse hbits =>
    have hop := operation_of_not_named h (not_not.mp hbits)
    split <;> simp_all

/-! ## Decoding by the typed opcode (R63) -/

/-- The instruction of a word of a given typed opcode, by the family's decoder. -/
def decodeTyped (t : TypedOpcode) (w e : Word) : Instr :=
  match t with
  | .arithmetic c sel k => decodeArith c sel k w
  | .jump c sel k => decodeJump c sel k w
  | .loadStore c m z => decodeLoadStore c m z w e

theorem decodeWords_eq_decodeTyped (w e : Word) : decodeWords w e = decodeTyped (toTyped (opcodeOf w)) w e := by
  unfold decodeWords decodeTyped
  cases toTyped (opcodeOf w) <;> rfl

section
variable (op : Opcode) (src dst : RegField) (off : OffField) (imm : ImmField) (e : Word)

theorem decodeWords_mkWord :
    decodeWords (mkWord op src dst off imm) e = decodeTyped (toTyped op) (mkWord op src dst off imm) e := by
  rw [decodeWords_eq_decodeTyped, opcodeOf_mkWord]

theorem decodeWords_mkWord_imm (c : LSClass) (z : Size) : decodeWords (mkWord (lsOpcode .imm z c) src dst off imm) e =
    decodeImm c z (mkWord (lsOpcode .imm z c) src dst off imm) e := by
  rw [decodeWords_mkWord, toTyped_lsOpcode]
  rfl

theorem decodeWords_mkWord_atomicW :
    decodeWords (mkWord 0xc3#8 src dst off imm) e = decodeAtomicW (mkWord 0xc3#8 src dst off imm) := by
  rw [decodeWords_mkWord]
  rfl

theorem decodeWords_mkWord_atomicDw :
    decodeWords (mkWord 0xdb#8 src dst off imm) e = decodeAtomicDw (mkWord 0xdb#8 src dst off imm) := by
  rw [decodeWords_mkWord]
  rfl

end

/-! ## The round trip (R50, R71) -/

/-- A well-formed instruction is what its words decode to. The rows that share an opcode byte are told apart by the `src` field
(DIV, MOD, CALL, mode IMM) or the immediate (mode ATOMIC) that the encoder wrote; elsewhere the opcode byte decides alone. -/
theorem decodeWords_of_encode {i : Instr} (h : i.wellFormed = true) {w : Word} {ws : List Word} (he : encode i = w :: ws) :
    decodeWords w (ws.headD 0) = i := by
  cases i
  all_goals obtain ⟨rfl, rfl⟩ := List.cons.inj he
  case aluDivKSrc0 | aluDivXSrc0 | alu64DivKSrc0 | alu64DivXSrc0 | aluModKSrc0 | aluModXSrc0 | alu64ModKSrc0 | alu64ModXSrc0
      | aluDivK | aluDivX | alu64DivK | alu64DivX | aluModK | aluModX | alu64ModK | alu64ModX =>
    simp_all [decodeWords_mkWord, decodeTyped, toTyped, opClass, classOfBits, opSource, opArithCode, arithCodeOfBits,
      decodeArith, Instr.wellFormed]
  case jmpCallKSel0 | jmpCallKSel1 | jmpCallKSel2 | jmpCallXSel0 | jmpCallXSel1 | jmpCallXSel2
      | jmp32CallKSel0 | jmp32CallKSel1 | jmp32CallKSel2 | jmp32CallXSel0 | jmp32CallXSel1 | jmp32CallXSel2 =>
    simp [decodeWords_mkWord, decodeTyped, toTyped, opClass, classOfBits, opSource, opJumpCode, jumpCodeOfBits, decodeJump]
  case jmpCallKSelOther src | jmpCallXSelOther src | jmp32CallKSelOther src | jmp32CallXSelOther src =>
    have hsel : 2 < src.toNat := of_decide_eq_true h
    have h0 : src ≠ 0#4 := by bv_omega
    have h1 : src ≠ 1#4 := by bv_omega
    have h2 : src ≠ 2#4 := by bv_omega
    simp [decodeWords_mkWord, decodeTyped, toTyped, opClass, classOfBits, opSource, opJumpCode, jumpCodeOfBits, decodeJump,
      h0, h1, h2]
  case ldImmLiteral64 | ldImmMapByFd | ldImmMapValByFd | ldImmVarAddr | ldImmCodeAddr | ldImmMapByIdx | ldImmMapValByIdx =>
    simp [decodeWords_mkWord_imm, decodeImm]
  case ldImmSelOther src _ =>
    have hsel : 6 < src.toNat := of_decide_eq_true h
    simp only [decodeWords_mkWord_imm, decodeImm, srcOf_mkWord]
    split
    case h_8 => simp
    all_goals omega
  case stxAtomicWAdd | stxAtomicWOr | stxAtomicWAnd | stxAtomicWXor
      | stxAtomicWFetchAdd | stxAtomicWFetchOr | stxAtomicWFetchAnd | stxAtomicWFetchXor =>
    simp [decodeWords_mkWord_atomicW, decodeAtomicW]
  case stxAtomicDwAdd | stxAtomicDwOr | stxAtomicDwAnd | stxAtomicDwXor
      | stxAtomicDwFetchAdd | stxAtomicDwFetchOr | stxAtomicDwFetchAnd | stxAtomicDwFetchXor =>
    simp [decodeWords_mkWord_atomicDw, decodeAtomicDw]
  case stxAtomicWXchg fetch | stxAtomicWCmpxchg fetch =>
    cases fetch <;> simp [decodeWords_mkWord_atomicW, decodeAtomicW, fetchImm]
  case stxAtomicDwXchg fetch | stxAtomicDwCmpxchg fetch =>
    cases fetch <;> simp [decodeWords_mkWord_atomicDw, decodeAtomicDw, fetchImm]
  case stxAtomicWOpOther imm =>
    simpa using (decodeWords_mkWord_atomicW 0 0 0 imm 0).trans
      (decodeAtomicW_of_not_named (by simpa [Instr.wellFormed] using h))
  case stxAtomicDwOpOther imm =>
    simpa using (decodeWords_mkWord_atomicDw 0 0 0 imm 0).trans
      (decodeAtomicDw_of_not_named (by simpa [Instr.wellFormed] using h))
  case ldMemAny size =>
    cases size <;> (rw [decodeWords_mkWord]; rfl)
  case anyAtomicH cls | anyAtomicB cls =>
    cases cls <;> (rw [decodeWords_mkWord]; rfl)
  case anyMode5 cls size | anyMode7 cls size =>
    cases cls <;> cases size <;> (rw [decodeWords_mkWord]; rfl)
  case notldxMemsxAny cls size =>
    rw [decodeWords_mkWord, toTyped_lsOpcode]
    cases cls
    case ldx => cases h
    all_goals (cases size <;> rfl)
  case notstxAtomicAny cls size =>
    rw [decodeWords_mkWord, toTyped_lsOpcode]
    cases cls <;> cases size
    case ld.w | ld.dw | ldx.w | ldx.dw | st.w | st.dw => rfl
    all_goals cases h
  all_goals
    rw [decodeWords_mkWord]
    (conv_lhs => whnf) <;> simp only [srcOf_mkWord, dstOf_mkWord, offOf_mkWord, immOf_mkWord]

/-- The encoding of an instruction is one word or two. -/
theorem encode_cases (i : Instr) : (∃ w, encode i = [w]) ∨ ∃ w e, encode i = [w, e] := by
  cases i with
  | ldImmLiteral64 | ldImmMapByFd | ldImmMapValByFd | ldImmVarAddr | ldImmCodeAddr | ldImmMapByIdx | ldImmMapValByIdx
  | ldImmSelOther => exact .inr ⟨_, _, rfl⟩
  | _ => exact .inl ⟨_, rfl⟩

/-- A decoded instruction has two words exactly when its basic word is extended (R70, R71). -/
theorem encode_decodeWords_length (w e : Word) :
    (encode (decodeWords w e)).length = 2 ↔ isExtended w = true := by
  have hslots := instrSlots_decodeWords w e
  unfold instrSlots at hslots
  cases hx : isExtended w with
  | true =>
    rw [hx, if_pos rfl] at hslots
    exact iff_of_true (by_contra fun hlen => absurd (hslots.symm.trans (if_neg hlen)) (by decide)) rfl
  | false =>
    rw [hx, if_neg Bool.false_ne_true] at hslots
    exact iff_of_false (fun hlen => absurd (hslots.symm.trans (if_pos hlen)) (by decide)) Bool.false_ne_true

/-! ## The statements -/

/-- Settles O7: the encoding has one word or two; that it has two says that the first one is extended. -/
theorem decodeOfEncodeIsTheInstruction : Obligations.DecodeOfEncodeIsTheInstruction := by
  intro i rest hwf
  rcases encode_cases i with ⟨w, he⟩ | ⟨w, e, he⟩
  · have hi : decodeWords w 0 = i := by simpa using decodeWords_of_encode hwf he
    have hx : isExtended w = false := by
      rw [← Bool.not_eq_true, ← encode_decodeWords_length w 0, hi, he]
      exact (by decide : ¬ (1 = 2))
    rw [encodeBytes, he, List.flatMap_singleton, decode_basic hx, hi]
  · have hi : decodeWords w e = i := by simpa using decodeWords_of_encode hwf he
    have hx : isExtended w = true := by
      rw [← encode_decodeWords_length w e, hi, he]
      rfl
    rw [encodeBytes, he, List.flatMap_cons, List.flatMap_singleton, List.append_assoc, decode_extended hx, hi]

/-- Settles O9, by the family of the word's typed opcode. -/
theorem everyWordDecodesToAWellFormedInstruction : Obligations.EveryWordDecodesToAWellFormedInstruction :=
  decodeWords_wellFormed

end Sys2Proof.Proofs

/-! The opcode table of 30_encoding.md section 5 beside the decoder: the constructors of `Instr` stand in the order of the rows, so
the row of an instruction is the one at its constructor's number. The row of the decoded instruction matches its word, and no row
before it does. -/

namespace Sys2Proof.Proofs

open Sys2Proof Sys2Proof.Machine Sys2Proof.Laws

/-! ## The bits a row looks at (R50, R57) -/

/-- A mask takes the fields of a word by the fields of the mask. -/
theorem and_eq_mkWord (w m : Word) : w &&& m = mkWord (opcodeOf w &&& opcodeOf m) (srcOf w &&& srcOf m)
    (dstOf w &&& dstOf m) (offOf w &&& offOf m) (immOf w &&& immOf m) := by
  apply BitVec.eq_of_getLsbD_eq
  intro i hi
  simp only [mkWord, opcodeOf, srcOf, dstOf, offOf, immOf, swap16, swap32, BitVec.getLsbD_and, BitVec.getLsbD_append,
    BitVec.getLsbD_extractLsb']
  interval_cases i <;> simp

/-- The bits of the opcode byte and of the fields that are asked for. -/
def fieldMask (src dst off imm : Bool) : Word :=
  mkWord 0xff (if src then 0xf else 0) (if dst then 0xf else 0) (if off then 0xffff else 0) (if imm then 0xffffffff else 0)

theorem and_ite {n : Nat} (b : Bool) (v : BitVec n) : (v &&& if b then BitVec.allOnes n else 0) = if b then v else 0 := by
  cases b <;> simp

theorem and_fieldMask (w : Word) (src dst off imm : Bool) : w &&& fieldMask src dst off imm =
    mkWord (opcodeOf w) (if src then srcOf w else 0) (if dst then dstOf w else 0) (if off then offOf w else 0)
      (if imm then immOf w else 0) := by
  have hop : opcodeOf w &&& 0xff = opcodeOf w := BitVec.and_allOnes
  have hsrc := and_ite src (srcOf w)
  have hdst := and_ite dst (dstOf w)
  have hoff := and_ite off (offOf w)
  have himm := and_ite imm (immOf w)
  rw [and_eq_mkWord, fieldMask, opcodeOf_mkWord, srcOf_mkWord, dstOf_mkWord, offOf_mkWord, immOf_mkWord]
  exact congr (congr (congr (congr (congrArg mkWord hop) hsrc) hdst) hoff) himm

section
variable (w : Word)

theorem and_reads_op : w &&& 0xff00000000000000#64 = mkWord (opcodeOf w) 0 0 0 0 :=
  and_fieldMask w false false false false
theorem and_reads_imm : w &&& 0xff000000ffffffff#64 = mkWord (opcodeOf w) 0 0 0 (immOf w) :=
  and_fieldMask w false false false true
theorem and_reads_off : w &&& 0xff00ffff00000000#64 = mkWord (opcodeOf w) 0 0 (offOf w) 0 :=
  and_fieldMask w false false true false
theorem and_reads_dst_imm : w &&& 0xff0f0000ffffffff#64 = mkWord (opcodeOf w) 0 (dstOf w) 0 (immOf w) :=
  and_fieldMask w false true false true
theorem and_reads_dst_off_imm : w &&& 0xff0fffffffffffff#64 = mkWord (opcodeOf w) 0 (dstOf w) (offOf w) (immOf w) :=
  and_fieldMask w false true true true
theorem and_reads_src : w &&& 0xfff0000000000000#64 = mkWord (opcodeOf w) (srcOf w) 0 0 0 :=
  and_fieldMask w true false false false
theorem and_reads_src_imm : w &&& 0xfff00000ffffffff#64 = mkWord (opcodeOf w) (srcOf w) 0 0 (immOf w) :=
  and_fieldMask w true false false true
theorem and_reads_src_off : w &&& 0xfff0ffff00000000#64 = mkWord (opcodeOf w) (srcOf w) 0 (offOf w) 0 :=
  and_fieldMask w true false true false
theorem and_reads_src_dst : w &&& 0xffff000000000000#64 = mkWord (opcodeOf w) (srcOf w) (dstOf w) 0 0 :=
  and_fieldMask w true true false false
theorem and_reads_src_dst_imm : w &&& 0xffff0000ffffffff#64 = mkWord (opcodeOf w) (srcOf w) (dstOf w) 0 (immOf w) :=
  and_fieldMask w true true false true
theorem and_reads_src_dst_off : w &&& 0xffffffff00000000#64 = mkWord (opcodeOf w) (srcOf w) (dstOf w) (offOf w) 0 :=
  and_fieldMask w true true true false
theorem and_reads_all : w &&& 0xffffffffffffffff#64 = mkWord (opcodeOf w) (srcOf w) (dstOf w) (offOf w) (immOf w) :=
  and_fieldMask w true true true true

/-- The bits of an extension word that its row reads (R58, decision D19). -/
theorem and_nextImm : w &&& 0x00000000ffffffff#64 = mkWord 0 0 0 0 (immOf w) := by
  have hmask : (0x00000000ffffffff#64 : Word) = mkWord 0 0 0 0 0xffffffff := by decide
  have himm : immOf w &&& 0xffffffff = immOf w := BitVec.and_allOnes
  rw [and_eq_mkWord, hmask, opcodeOf_mkWord, srcOf_mkWord, dstOf_mkWord, offOf_mkWord, immOf_mkWord, himm]
  simp

end

/-! ## The opcode byte of a typed opcode (R50, R61 to R69) -/

def arithCodeBits : ArithCode → BitVec 4
  | .add => 0x0
  | .sub => 0x1
  | .mul => 0x2
  | .div => 0x3
  | .or => 0x4
  | .and => 0x5
  | .lsh => 0x6
  | .rsh => 0x7
  | .neg => 0x8
  | .mod => 0x9
  | .xor => 0xa
  | .mov => 0xb
  | .arsh => 0xc
  | .end_ => 0xd
  | .codeE => 0xe
  | .codeF => 0xf

def jumpCodeBits : JumpCode → BitVec 4
  | .ja => 0x0
  | .jeq => 0x1
  | .jgt => 0x2
  | .jge => 0x3
  | .jset => 0x4
  | .jne => 0x5
  | .jsgt => 0x6
  | .jsge => 0x7
  | .call => 0x8
  | .exit => 0x9
  | .jlt => 0xa
  | .jle => 0xb
  | .jslt => 0xc
  | .jsle => 0xd
  | .codeE => 0xe
  | .codeF => 0xf

def sourceBit : Source → BitVec 1
  | .k => 0
  | .x => 1

def arithClassBits : ArithClass → BitVec 3
  | .alu => 4
  | .alu64 => 7

def jumpClassBits : JumpClass → BitVec 3
  | .jmp => 5
  | .jmp32 => 6

def opcodeOfTyped : TypedOpcode → Opcode
  | .arithmetic c sel k => arithCodeBits k ++ sourceBit sel ++ arithClassBits c
  | .jump c sel k => jumpCodeBits k ++ sourceBit sel ++ jumpClassBits c
  | .loadStore c m z => lsOpcode m z c

theorem opcodeOfTyped_toTyped : ∀ op : Opcode, opcodeOfTyped (toTyped op) = op := by decide +kernel

theorem opcodeOf_eq {w : Word} {t : TypedOpcode} (h : toTyped (opcodeOf w) = t) : opcodeOf w = opcodeOfTyped t := by
  rw [← h, opcodeOfTyped_toTyped]

theorem immOf_of_named {w : Word} (h : namesAtomicOp (immOf w) = true) :
    immOf w = 0x00 ∨ immOf w = 0x40 ∨ immOf w = 0x50 ∨ immOf w = 0xa0 ∨ immOf w = 0x01 ∨ immOf w = 0x41 ∨
      immOf w = 0x51 ∨ immOf w = 0xa1 ∨ immOf w = 0xe0 ∨ immOf w = 0xe1 ∨ immOf w = 0xf0 ∨ immOf w = 0xf1 := by
  simpa [namesAtomicOp] using h

/-! ## Encoding the decoded instruction (R57, R58) -/

theorem eq_ofNat_of_toNat_eq {n k : Nat} {v : BitVec n} (h : v.toNat = k) : v = BitVec.ofNat n k := by
  rw [← h, BitVec.ofNat_toNat, BitVec.setWidth_eq]

/-- What encoding instruction `i` gives back of the word it was decoded from: the bits that the row at its constructor's number
reads. -/
def EncodesReadBits (i : Instr) (w e : Word) : Prop :=
  ∀ r, opcodeTable[i.ctorIdx]? = some r →
    encode i = (w &&& r.reads) :: (if r.extended then [e &&& 0x00000000ffffffff#64] else [])

theorem encodesReadBits_decodeArith {c : ArithClass} {sel : Source} {k : ArithCode} {w : Word}
    (hop : opcodeOf w = opcodeOfTyped (.arithmetic c sel k)) (e : Word) : EncodesReadBits (decodeArith c sel k w) w e := by
  cases k
  case div | mod =>
    cases c <;> cases sel <;> simp only [decodeArith] <;> split <;>
      (intro r hr
       cases hr
       simp_all [encode, and_reads_src_dst, and_reads_src_dst_imm, opcodeOfTyped, arithCodeBits, sourceBit, arithClassBits])
  all_goals
    cases c <;> cases sel <;>
      (intro r hr
       cases hr
       simp [decodeArith, encode, and_reads_op, and_reads_dst_imm, and_reads_src_dst, hop, opcodeOfTyped, arithCodeBits,
         sourceBit, arithClassBits])

theorem encodesReadBits_decodeJump {c : JumpClass} {sel : Source} {k : JumpCode} {w : Word}
    (hop : opcodeOf w = opcodeOfTyped (.jump c sel k)) (e : Word) : EncodesReadBits (decodeJump c sel k w) w e := by
  cases k
  case call =>
    cases c <;> cases sel <;> simp only [decodeJump] <;> split_ifs <;>
      (intro r hr
       cases hr
       simp_all [encode, and_reads_src, and_reads_src_imm, and_reads_src_off, opcodeOfTyped, jumpCodeBits, sourceBit,
         jumpClassBits])
  all_goals
    cases c <;> cases sel <;>
      (intro r hr
       cases hr
       simp [decodeJump, encode, and_reads_op, and_reads_off, and_reads_dst_off_imm, and_reads_src_dst_off, hop,
         opcodeOfTyped, jumpCodeBits, sourceBit, jumpClassBits])

theorem encodesReadBits_decodeImm {c : LSClass} {z : Size} {w : Word} (hop : opcodeOf w = lsOpcode .imm z c) (e : Word) :
    EncodesReadBits (decodeImm c z w e) w e := by
  unfold decodeImm
  split
  case h_8 =>
    intro r hr
    cases hr
    simp [encode, and_reads_src, and_nextImm, hop]
  all_goals
    rename_i hsel
    have hsrc := eq_ofNat_of_toNat_eq hsel
    intro r hr
    cases hr
    simp [encode, and_reads_src_dst_imm, and_nextImm, hop, hsrc]

theorem encodesReadBits_decodeAtomicW {w : Word} (hop : opcodeOf w = 0xc3) (e : Word) :
    EncodesReadBits (decodeAtomicW w) w e := by
  cases hn : namesAtomicOp (immOf w) with
  | false =>
    rw [decodeAtomicW_of_not_named hn]
    intro r hr
    cases hr
    simp [encode, and_reads_imm, hop]
  | true =>
    rcases immOf_of_named hn with h | h | h | h | h | h | h | h | h | h | h | h <;>
      (rw [decodeAtomicW, h]
       intro r hr
       cases hr
       simp [encode, fetchImm, and_reads_imm, and_reads_all, hop, h])

theorem encodesReadBits_decodeAtomicDw {w : Word} (hop : opcodeOf w = 0xdb) (e : Word) :
    EncodesReadBits (decodeAtomicDw w) w e := by
  cases hn : namesAtomicOp (immOf w) with
  | false =>
    rw [decodeAtomicDw_of_not_named hn]
    intro r hr
    cases hr
    simp [encode, and_reads_imm, hop]
  | true =>
    rcases immOf_of_named hn with h | h | h | h | h | h | h | h | h | h | h | h <;>
      (rw [decodeAtomicDw, h]
       intro r hr
       cases hr
       simp [encode, fetchImm, and_reads_imm, and_reads_all, hop, h])

theorem encodesReadBits_decodeLoadStore {c : LSClass} {m : Mode} {z : Size} {w : Word} (hop : opcodeOf w = lsOpcode m z c)
    (e : Word) : EncodesReadBits (decodeLoadStore c m z w e) w e := by
  cases m
  case imm => exact encodesReadBits_decodeImm hop e
  case atomic =>
    cases z <;> cases c
    case w.stx => exact encodesReadBits_decodeAtomicW hop e
    case dw.stx => exact encodesReadBits_decodeAtomicDw hop e
    all_goals
      intro r hr
      cases hr
      simp [decodeLoadStore, decodeAtomic, encode, and_reads_op, hop]
  all_goals
    cases z <;> cases c <;>
      (intro r hr
       cases hr
       simp [decodeLoadStore, encode, and_reads_op, and_reads_dst_off_imm, and_reads_src_dst_off, hop, lsOpcode, Mode.bits,
         Size.bits, LSClass.bits])

theorem encodesReadBits_decodeWords (w e : Word) : EncodesReadBits (decodeWords w e) w e := by
  rw [decodeWords_eq_decodeTyped]
  cases ht : toTyped (opcodeOf w) with
  | arithmetic c sel k => exact encodesReadBits_decodeArith (opcodeOf_eq ht) e
  | jump c sel k => exact encodesReadBits_decodeJump (opcodeOf_eq ht) e
  | loadStore c m z => exact encodesReadBits_decodeLoadStore (opcodeOf_eq ht) e

end Sys2Proof.Proofs

/-! The first matching row (R75). A row that matches a word stands at or after the constructor that the word decodes to, and the
row at that constructor matches it. -/

namespace Sys2Proof.Proofs

open Sys2Proof Sys2Proof.Machine Sys2Proof.Laws

/-! ## The constructor a word decodes to -/

/-- The typed opcodes whose rows the `src` field tells apart (R105, R111, R143, R161 to R168). -/
def readsSrc : TypedOpcode → Bool
  | .arithmetic _ _ k => k = .div || k = .mod
  | .jump _ _ k => k = .call
  | .loadStore _ m _ => m = .imm

/-- The typed opcodes whose rows the immediate tells apart (R177). -/
def readsImm : TypedOpcode → Bool
  | .loadStore c m z => c = .stx && m = .atomic && (z = .w || z = .dw)
  | .arithmetic _ _ _ | .jump _ _ _ => false

theorem ctorIdx_decodeImm_congr {w w' : Word} (h : srcOf w = srcOf w') (c c' : LSClass) (z z' : Size) (e e' : Word) :
    (decodeImm c z w e).ctorIdx = (decodeImm c' z' w' e').ctorIdx := by
  unfold decodeImm
  rw [h]
  split <;> rfl

theorem ctorIdx_decodeAtomicW_congr {w w' : Word} (h : immOf w = immOf w') :
    (decodeAtomicW w).ctorIdx = (decodeAtomicW w').ctorIdx := by
  cases hn : namesAtomicOp (immOf w) with
  | false => rw [decodeAtomicW_of_not_named hn, decodeAtomicW_of_not_named (h ▸ hn)]; rfl
  | true =>
    rcases immOf_of_named hn with hi | hi | hi | hi | hi | hi | hi | hi | hi | hi | hi | hi <;>
      (rw [decodeAtomicW, decodeAtomicW, ← h, hi]; rfl)

theorem ctorIdx_decodeAtomicDw_congr {w w' : Word} (h : immOf w = immOf w') :
    (decodeAtomicDw w).ctorIdx = (decodeAtomicDw w').ctorIdx := by
  cases hn : namesAtomicOp (immOf w) with
  | false => rw [decodeAtomicDw_of_not_named hn, decodeAtomicDw_of_not_named (h ▸ hn)]; rfl
  | true =>
    rcases immOf_of_named hn with hi | hi | hi | hi | hi | hi | hi | hi | hi | hi | hi | hi <;>
      (rw [decodeAtomicDw, decodeAtomicDw, ← h, hi]; rfl)

/-- The typed opcode, and the field that tells its rows apart, decide the constructor. -/
theorem ctorIdx_decodeTyped_congr {t : TypedOpcode} {w w' : Word} (hsrc : readsSrc t = true → srcOf w = srcOf w')
    (himm : readsImm t = true → immOf w = immOf w') (e e' : Word) :
    (decodeTyped t w e).ctorIdx = (decodeTyped t w' e').ctorIdx := by
  cases t with
  | arithmetic c sel k =>
    cases k
    case div | mod =>
      cases c <;> cases sel <;> simp only [decodeTyped, decodeArith, hsrc rfl] <;> split <;> rfl
    all_goals (cases c <;> cases sel <;> rfl)
  | jump c sel k =>
    cases k
    case call =>
      cases c <;> cases sel <;> simp only [decodeTyped, decodeJump, hsrc rfl] <;> split_ifs <;> rfl
    all_goals (cases c <;> cases sel <;> rfl)
  | loadStore c m z =>
    cases m
    case imm => exact ctorIdx_decodeImm_congr (hsrc rfl) _ _ _ _ _ _
    case atomic =>
      cases c <;> cases z
      case stx.w => exact ctorIdx_decodeAtomicW_congr (himm rfl)
      case stx.dw => exact ctorIdx_decodeAtomicDw_congr (himm rfl)
      all_goals rfl
    all_goals (cases c <;> cases z <;> rfl)

/-- The same of two words with one opcode byte. -/
theorem ctorIdx_decodeWords_congr {w w' : Word} (hop : opcodeOf w = opcodeOf w')
    (hsrc : readsSrc (toTyped (opcodeOf w')) = true → srcOf w = srcOf w')
    (himm : readsImm (toTyped (opcodeOf w')) = true → immOf w = immOf w') (e e' : Word) :
    (decodeWords w e).ctorIdx = (decodeWords w' e').ctorIdx := by
  rw [decodeWords_eq_decodeTyped, decodeWords_eq_decodeTyped, hop]
  exact ctorIdx_decodeTyped_congr hsrc himm e e'

/-- The first row among those of a typed opcode: that of the words with `src` and Imm 0. -/
def firstRow (t : TypedOpcode) : Nat := (decodeTyped t (mkWord 0 0 0 0 0) 0).ctorIdx

/-- The last row among those of a typed opcode: that of the words with all bits of `src` and Imm set. -/
def lastRow (t : TypedOpcode) : Nat := (decodeTyped t (mkWord 0 0xf 0 0 0xffffffff) 0).ctorIdx

theorem between_of_ble {a k b : Nat} (h : (Nat.ble a k && Nat.ble k b) = true) : a ≤ k ∧ k ≤ b := by
  simpa using h

theorem ctorIdx_decodeTyped_bounds (t : TypedOpcode) (w e : Word) :
    firstRow t ≤ (decodeTyped t w e).ctorIdx ∧ (decodeTyped t w e).ctorIdx ≤ lastRow t := by
  cases t with
  | arithmetic c sel k =>
    cases k
    case div | mod =>
      cases c <;> cases sel <;> simp only [decodeTyped, decodeArith] <;> split <;> exact between_of_ble rfl
    all_goals (cases c <;> cases sel <;> exact between_of_ble rfl)
  | jump c sel k =>
    cases k
    case call =>
      cases c <;> cases sel <;> simp only [decodeTyped, decodeJump] <;> split_ifs <;> exact between_of_ble rfl
    all_goals (cases c <;> cases sel <;> exact between_of_ble rfl)
  | loadStore c m z =>
    cases m
    case imm =>
      simp only [decodeTyped, decodeLoadStore, decodeImm]
      split <;> exact between_of_ble rfl
    case atomic =>
      cases c <;> cases z
      case stx.w =>
        change _ ≤ (decodeAtomicW w).ctorIdx ∧ (decodeAtomicW w).ctorIdx ≤ _
        cases hn : namesAtomicOp (immOf w) with
        | false => rw [decodeAtomicW_of_not_named hn]; exact between_of_ble rfl
        | true =>
          rcases immOf_of_named hn with hi | hi | hi | hi | hi | hi | hi | hi | hi | hi | hi | hi <;>
            (rw [decodeAtomicW, hi]; exact between_of_ble rfl)
      case stx.dw =>
        change _ ≤ (decodeAtomicDw w).ctorIdx ∧ (decodeAtomicDw w).ctorIdx ≤ _
        cases hn : namesAtomicOp (immOf w) with
        | false => rw [decodeAtomicDw_of_not_named hn]; exact between_of_ble rfl
        | true =>
          rcases immOf_of_named hn with hi | hi | hi | hi | hi | hi | hi | hi | hi | hi | hi | hi <;>
            (rw [decodeAtomicDw, hi]; exact between_of_ble rfl)
      all_goals exact between_of_ble rfl
    all_goals (cases c <;> cases z <;> exact between_of_ble rfl)

end Sys2Proof.Proofs

/-! The rows themselves: what each row's mask and pattern say of the words it matches, checked row by row; the first matching row
of a word; and the statements on the opcode table. -/

namespace Sys2Proof.Proofs

open Sys2Proof Sys2Proof.Machine Sys2Proof.Laws

/-! ## The masks of the table -/

theorem isMatch_iff {r : Row} {w : Word} : r.isMatch w = true ↔ w &&& r.mask = r.pattern := by simp [Row.isMatch]

section
variable (w : Word)

/-- The mask of an immediate load of one selector, whatever its class and size (R161 to R167). -/
theorem and_immSelector : w &&& 0xe4f0000000000000#64 = mkWord (opcodeOf w &&& 0xe4) (srcOf w) 0 0 0 := by
  have hmask : 0xe4f0000000000000#64 = mkWord 0xe4 0xf 0 0 0 := by decide
  have hsrc : srcOf w &&& 0xf = srcOf w := BitVec.and_allOnes
  rw [and_eq_mkWord, hmask, opcodeOf_mkWord, srcOf_mkWord, dstOf_mkWord, offOf_mkWord, immOf_mkWord, hsrc]
  simp

/-- A mask of the opcode byte only. -/
theorem and_opcodeMask (m : Opcode) : w &&& mkWord m 0 0 0 0 = mkWord (opcodeOf w &&& m) 0 0 0 0 := by
  rw [and_eq_mkWord, opcodeOf_mkWord, srcOf_mkWord, dstOf_mkWord, offOf_mkWord, immOf_mkWord]
  simp

/-- The mask of XCHG and CMPXCHG, which leaves the fetch bit out (R183, R184). -/
theorem and_immNoFetch : w &&& 0xff000000feffffff#64 = mkWord (opcodeOf w) 0 0 0 (immOf w &&& 0xfffffffe) := by
  have hmask : 0xff000000feffffff#64 = mkWord 0xff 0 0 0 0xfffffffe := by decide
  have hop : opcodeOf w &&& 0xff = opcodeOf w := BitVec.and_allOnes
  rw [and_eq_mkWord, hmask, opcodeOf_mkWord, srcOf_mkWord, dstOf_mkWord, offOf_mkWord, immOf_mkWord, hop]
  simp

end

/-- Two patterns that agree but for bit 0 differ by it. -/
theorem eq_or_eq_of_and_fffffffe {v u : ImmField} (h : v &&& 0xfffffffe = u) : v = u ∨ v = u ||| 1 := by
  have hparts : v = (v &&& 0xfffffffe) ||| (v &&& 1) := by
    rw [← BitVec.and_or_distrib_left]
    exact BitVec.and_allOnes.symm
  have hbit : v &&& 1 = (BitVec.ofBool (v.getLsbD 0)).setWidth 32 := BitVec.and_one_eq_setWidth_ofBool_getLsbD
  rw [h, hbit] at hparts
  cases hb : v.getLsbD 0 with
  | false =>
    rw [hb] at hparts
    exact .inl (by simpa using hparts)
  | true =>
    rw [hb] at hparts
    exact .inr (by simpa using hparts)

/-- The fields of a matched word under the mask are those of the pattern. -/
theorem fields_of_isMatch {r : Row} {w : Word} (hm : r.isMatch w = true) :
    opcodeOf w &&& opcodeOf r.mask = opcodeOf r.pattern ∧ srcOf w &&& srcOf r.mask = srcOf r.pattern ∧
      immOf w &&& immOf r.mask = immOf r.pattern := by
  rw [← isMatch_iff.mp hm, and_eq_mkWord, opcodeOf_mkWord, srcOf_mkWord, immOf_mkWord]
  exact ⟨rfl, rfl, rfl⟩

/-! ## The rows one by one -/

/-- Row `n` matches words that decode to row `k`: it is no earlier one; and, before the thirty catch-alls, it is that very row,
or the general DIV or MOD row right after the row of `src` = 0 (R75). -/
def AtOrJustBefore (r : Row) (n k : Nat) : Prop :=
  k ≤ n ∧ (n < 203 → k = n ∨ (k + 1 = n ∧ ∀ q ∈ opcodeTable[k]?, q.mnemonic = r.mnemonic ++ "_SRC0"))

theorem atOrJustBefore_self (r : Row) (n : Nat) : AtOrJustBefore r n n := ⟨Nat.le_refl n, fun _ => .inl rfl⟩

/-- The row of the word that has a row's pattern, and 0 where the row does not look. -/
def patternRow (p : Word) : Nat := (decodeWords p 0).ctorIdx

/-- How row `n` says, by its mask and pattern, to which row the words decode that it matches: by the opcode byte alone, by the
opcode byte and `src` or Imm, in mode IMM by `src` alone, and a catch-all by the opcode bytes it admits. -/
def RowDecides (r : Row) (n : Nat) : Prop :=
  (r.mask = 0xff00000000000000 ∧ AtOrJustBefore r n (firstRow (toTyped (opcodeOf r.pattern))) ∧
    lastRow (toTyped (opcodeOf r.pattern)) ≤ n) ∨
  (r.mask = 0xfff0000000000000 ∧ readsImm (toTyped (opcodeOf r.pattern)) = false ∧ patternRow r.pattern = n) ∨
  (r.mask = 0xff000000ffffffff ∧ readsSrc (toTyped (opcodeOf r.pattern)) = false ∧ patternRow r.pattern = n) ∨
  (r.mask = 0xff000000feffffff ∧ readsSrc (toTyped (opcodeOf r.pattern)) = false ∧ patternRow r.pattern = n ∧
    patternRow (mkWord (opcodeOf r.pattern) 0 0 0 (immOf r.pattern ||| 1)) = n) ∨
  (r.mask = 0xe4f0000000000000 ∧ opcodeOf r.pattern = 0 ∧ patternRow r.pattern = n) ∨
  (203 ≤ n ∧ ∀ op : Opcode, op &&& opcodeOf r.mask = opcodeOf r.pattern → lastRow (toTyped op) ≤ n)

theorem rowDecides_of_mem : ∀ p ∈ opcodeTable.zipIdx, RowDecides p.1 p.2 := by
  unfold RowDecides AtOrJustBefore
  decide +kernel

/-- The words of mode IMM decode to one row by their selector, whatever their class and size (R160). -/
theorem ctorIdx_of_immSelector {w p : Word} (hop : opcodeOf w &&& 0xe4 = 0) (hp : opcodeOf p = 0) (hsrc : srcOf w = srcOf p)
    (e : Word) : (decodeWords w e).ctorIdx = patternRow p := by
  have hp' : decodeWords p 0 = decodeImm .ld .w p 0 := by rw [decodeWords_eq_decodeTyped, hp]; rfl
  have hx : opExtended (opcodeOf w) = true := by rw [opExtended_eq_mask, hop]; rfl
  rw [patternRow, hp', decodeWords_eq_decodeTyped]
  unfold opExtended at hx
  split at hx
  case h_1 c z ht =>
    rw [ht]
    exact ctorIdx_decodeImm_congr hsrc _ _ _ _ _ _
  all_goals cases hx

/-- Where the opcode byte decides, a row between the first and the last of its typed opcode is the one or the other. -/
theorem atOrJustBefore_of_bounds {r : Row} {n k first last : Nat} (hfirst : AtOrJustBefore r n first) (hlast : last ≤ n)
    (hk : first ≤ k ∧ k ≤ last) : AtOrJustBefore r n k := by
  refine ⟨hk.2.trans hlast, fun hlt => ?_⟩
  rcases hfirst.2 hlt with h | ⟨h, hname⟩
  · exact .inl (by omega)
  · by_cases hkn : k = n
    · exact .inl hkn
    · obtain rfl : k = first := by omega
      exact .inr ⟨h, hname⟩

/-- Words decode to rows as the rows that match them say. -/
theorem atOrJustBefore_of_isMatch {n : Nat} {r : Row} (hr : opcodeTable[n]? = some r) {w : Word} (hm : r.isMatch w = true)
    (e : Word) : AtOrJustBefore r n (decodeWords w e).ctorIdx := by
  obtain ⟨hop, hsrc, himm⟩ := fields_of_isMatch hm
  have hopFull (h : opcodeOf r.mask = 0xff) : opcodeOf w = opcodeOf r.pattern := by
    rw [← hop, h]
    exact BitVec.and_allOnes.symm
  have hsrcFull (h : srcOf r.mask = 0xf) : srcOf w = srcOf r.pattern := by
    rw [← hsrc, h]
    exact BitVec.and_allOnes.symm
  have himmFull (h : immOf r.mask = 0xffffffff) : immOf w = immOf r.pattern := by
    rw [← himm, h]
    exact BitVec.and_allOnes.symm
  have hbounds := ctorIdx_decodeTyped_bounds (toTyped (opcodeOf w)) w e
  rw [← decodeWords_eq_decodeTyped] at hbounds
  have hself {k : Nat} (hk : (decodeWords w e).ctorIdx = k) (hn : k = n) : AtOrJustBefore r n (decodeWords w e).ctorIdx :=
    (hk.trans hn).symm ▸ atOrJustBefore_self r n
  have hrow : RowDecides r n := rowDecides_of_mem (r, n) (List.mem_zipIdx_iff_getElem?.mpr hr)
  rcases hrow with ⟨hmask, hfirst, hlast⟩ | ⟨hmask, hreads, hn⟩ | ⟨hmask, hreads, hn⟩ | ⟨hmask, hreads, hn, hfetch⟩ |
      ⟨hmask, hp, hn⟩ | ⟨hcatch, hlast⟩
  · rw [hopFull (by rw [hmask]; decide)] at hbounds
    exact atOrJustBefore_of_bounds hfirst hlast hbounds
  · exact hself (ctorIdx_decodeWords_congr (hopFull (by rw [hmask]; decide)) (fun _ => hsrcFull (by rw [hmask]; decide))
      (fun h => nomatch hreads.symm.trans h) e 0) hn
  · exact hself (ctorIdx_decodeWords_congr (hopFull (by rw [hmask]; decide)) (fun h => nomatch hreads.symm.trans h)
      (fun _ => himmFull (by rw [hmask]; decide)) e 0) hn
  · have hop' := hopFull (by rw [hmask]; decide)
    rw [hmask] at himm
    rcases eq_or_eq_of_and_fffffffe himm with himm' | himm'
    · exact hself (ctorIdx_decodeWords_congr hop' (fun h => nomatch hreads.symm.trans h) (fun _ => himm') e 0) hn
    · refine hself (ctorIdx_decodeWords_congr (hop'.trans (opcodeOf_mkWord _ _ _ _ _).symm) ?_ ?_ e 0) hfetch
      · rw [opcodeOf_mkWord]
        exact fun h => nomatch hreads.symm.trans h
      · rw [immOf_mkWord]
        exact fun _ => himm'
  · rw [hmask, hp] at hop
    exact hself (ctorIdx_of_immSelector hop hp (hsrcFull (by rw [hmask]; decide)) e) hn
  · exact ⟨hbounds.2.trans (hlast _ hop), fun hlt => absurd hlt (Nat.not_lt.mpr hcatch)⟩

/-- The row at an instruction's constructor matches the words of the instruction. -/
theorem isMatch_encode {i : Instr} {r : Row} (hr : opcodeTable[i.ctorIdx]? = some r) {v : Word} {ws : List Word}
    (he : encode i = v :: ws) : r.isMatch v = true := by
  rw [isMatch_iff]
  cases i
  all_goals
    cases hr
    obtain ⟨rfl, rfl⟩ := List.cons.inj he
  case aluDivKSrc0 | aluDivXSrc0 | alu64DivKSrc0 | alu64DivXSrc0 | aluModKSrc0 | aluModXSrc0 | alu64ModKSrc0 | alu64ModXSrc0
      | jmpCallKSel0 | jmpCallKSel1 | jmpCallKSel2 | jmpCallXSel0 | jmpCallXSel1 | jmpCallXSel2
      | jmp32CallKSel0 | jmp32CallKSel1 | jmp32CallKSel2 | jmp32CallXSel0 | jmp32CallXSel1 | jmp32CallXSel2 =>
    refine (and_reads_src _).trans ?_
    rw [opcodeOf_mkWord, srcOf_mkWord]
    rfl
  case stxAtomicWAdd | stxAtomicWOr | stxAtomicWAnd | stxAtomicWXor | stxAtomicWFetchAdd | stxAtomicWFetchOr
      | stxAtomicWFetchAnd | stxAtomicWFetchXor | stxAtomicDwAdd | stxAtomicDwOr | stxAtomicDwAnd | stxAtomicDwXor
      | stxAtomicDwFetchAdd | stxAtomicDwFetchOr | stxAtomicDwFetchAnd | stxAtomicDwFetchXor =>
    refine (and_reads_imm _).trans ?_
    rw [opcodeOf_mkWord, immOf_mkWord]
    rfl
  case stxAtomicWXchg fetch | stxAtomicWCmpxchg fetch | stxAtomicDwXchg fetch | stxAtomicDwCmpxchg fetch =>
    cases fetch <;> rfl
  case ldImmLiteral64 cls size _ _ _ | ldImmMapByFd cls size _ _ _ | ldImmMapValByFd cls size _ _ _ | ldImmVarAddr cls size _ _ _
      | ldImmCodeAddr cls size _ _ _ | ldImmMapByIdx cls size _ _ _ | ldImmMapValByIdx cls size _ _ _ =>
    refine (and_immSelector _).trans ?_
    rw [opcodeOf_mkWord, srcOf_mkWord]
    cases cls <;> cases size <;> rfl
  case ldImmSelOther cls size _ _ =>
    refine (and_opcodeMask _ 0xe4).trans ?_
    rw [opcodeOf_mkWord]
    cases cls <;> cases size <;> rfl
  case ldMemAny size => cases size <;> rfl
  case anyAtomicH cls | anyAtomicB cls => cases cls <;> rfl
  case notldxMemsxAny cls size => cases cls <;> cases size <;> rfl
  case notstxAtomicAny cls size => cases cls <;> cases size <;> rfl
  case anyMode5 cls size => cases cls <;> cases size <;> rfl
  case anyMode7 cls size => cases cls <;> cases size <;> rfl
  all_goals
    refine (and_reads_op _).trans ?_
    rw [opcodeOf_mkWord]
    rfl

/-! ## The first matching row (R75) -/

/-- The row at an instruction's constructor has its mnemonic and its stepper column. -/
theorem row_of_instr (i : Instr) :
    ∃ r, opcodeTable[i.ctorIdx]? = some r ∧ r.mnemonic = i.mnemonic ∧ r.executes = i.interpreted := by
  cases i <;> exact ⟨_, rfl, rfl, rfl⟩

/-- Every row reads the bits its mask fixes. -/
theorem mask_subset_reads : ∀ r ∈ opcodeTable, r.reads &&& r.mask = r.mask := by decide +kernel

/-- No row fixes a bit that its mask leaves out. -/
theorem pattern_subset_mask : ∀ r ∈ opcodeTable, r.pattern &&& r.mask = r.pattern := by decide +kernel

/-- Whether a row matches depends on the bits it reads only. -/
theorem isMatch_and_reads {r : Row} (hr : r ∈ opcodeTable) (w : Word) : r.isMatch (w &&& r.reads) = r.isMatch w := by
  rw [Row.isMatch, Row.isMatch, BitVec.and_assoc, mask_subset_reads r hr]

theorem isMatch_decoded {w e : Word} {r : Row} (hr : opcodeTable[(decodeWords w e).ctorIdx]? = some r) :
    r.isMatch w = true := by
  rw [← isMatch_and_reads (List.mem_of_getElem? hr)]
  exact isMatch_encode hr (encodesReadBits_decodeWords w e r hr)

/-- The first row that matches a word is the one at the constructor of the instruction it decodes to. -/
theorem rowOf_eq (w e : Word) : rowOf w = opcodeTable[(decodeWords w e).ctorIdx]? := by
  obtain ⟨r, hr, _, _⟩ := row_of_instr (decodeWords w e)
  obtain ⟨hlt, hget⟩ := List.getElem?_eq_some_iff.mp hr
  rw [hr, rowOf, List.find?_eq_some_iff_getElem]
  refine ⟨isMatch_decoded hr, _, hlt, hget, fun j hj => ?_⟩
  rw [Bool.not_eq_true', Bool.eq_false_iff]
  intro hm
  obtain ⟨hle, _⟩ := atOrJustBefore_of_isMatch (List.getElem?_eq_getElem (hj.trans hlt)) hm e
  exact absurd hle (Nat.not_le.mpr hj)

/-- A row is as long as the words it decodes: an extended basic word and no other has a second one (R70, R71). -/
theorem row_extended {w : Word} {r : Row} (hr : rowOf w = some r) : r.extended = isExtended w := by
  have hlen := encode_decodeWords_length w 0
  rw [encodesReadBits_decodeWords w 0 r (rowOf_eq w 0 ▸ hr)] at hlen
  rw [Bool.eq_iff_iff, ← hlen]
  cases r.extended <;> simp

/-! ## The statements -/

/-- Settles O8: the first matching row is the one at the constructor of the decoded instruction. -/
theorem encodeOfDecodeKeepsTheReadBits : Obligations.EncodeOfDecodeKeepsTheReadBits :=
  fun w e r hr => encodesReadBits_decodeWords w e r (rowOf_eq w e ▸ hr)

/-- Settles O10, by the row at the constructor. -/
theorem firstMatchingRowNamesTheDecodedInstruction : Obligations.FirstMatchingRowNamesTheDecodedInstruction := by
  intro w e
  obtain ⟨r, hr, hname, hexec⟩ := row_of_instr (decodeWords w e)
  have hrow : rowOf w = some r := (rowOf_eq w e).trans hr
  exact ⟨r, hrow, hname, row_extended hrow, hexec⟩

/-- Absorption. -/
theorem or_and_self_left (x y : Word) : x ||| (x &&& y) = x := by
  ext i
  simpa using fun h _ => h

theorem and_or_self_right (x y : Word) : (x &&& y) ||| x = x := by rw [BitVec.or_comm, or_and_self_left]

/-- Settles O12: two rows that overlap match the OR of their patterns, which decodes to one row. -/
theorem renderedAndUnsupportedRowsAreDisjoint : Obligations.RenderedAndUnsupportedRowsAreDisjoint := by
  refine ⟨rfl, fun i hi j hj hij r hr q hq => ?_⟩
  rw [List.mem_range] at hi hj
  rw [Option.mem_def] at hr hq
  by_cases hover : r.pattern &&& q.mask = q.pattern &&& r.mask
  · have hr' := pattern_subset_mask r (List.mem_of_getElem? hr)
    have hq' := pattern_subset_mask q (List.mem_of_getElem? hq)
    have hmr : r.isMatch (r.pattern ||| q.pattern) = true := by
      rw [isMatch_iff, BitVec.and_or_distrib_right, hr', ← hover, or_and_self_left]
    have hmq : q.isMatch (r.pattern ||| q.pattern) = true := by
      rw [isMatch_iff, BitVec.and_or_distrib_right, hq', hover, and_or_self_right]
    obtain ⟨hki, hi'⟩ := atOrJustBefore_of_isMatch hr hmr 0
    obtain ⟨hkj, hj'⟩ := atOrJustBefore_of_isMatch hq hmq 0
    rcases hj' hj with hk | ⟨hk, hname⟩
    · omega
    · obtain rfl : (decodeWords (r.pattern ||| q.pattern) 0).ctorIdx = i := by rcases hi' hi with h | ⟨h, _⟩ <;> omega
      exact .inr ⟨hk.symm, hname r hr⟩
  · exact .inl hover

end Sys2Proof.Proofs

/-! `Render` by classification and the texts of the opcode table: one account (R75, R87); and what neither looks at (R57, R58). -/

namespace Sys2Proof.Proofs

open Sys2Proof Sys2Proof.Machine Sys2Proof.Laws

/-! ## The texts of the table -/

/-- A result is what the row at an instruction's constructor gives on the two words. -/
def RendersByRow (i : Instr) (w e : Word) (result : RenderResult) : Prop :=
  ∀ r, opcodeTable[i.ctorIdx]? = some r → result = r.render w e

/-- Two texts are equal when their characters are. -/
theorem ok_eq_ok_iff {a b : String} : RenderResult.ok a = .ok b ↔ a.toList = b.toList := by
  rw [RenderResult.ok.injEq, String.toList_inj]

/-- CALL prints by its selector (R143). -/
theorem renderCall_eq (w : Word) : renderCall w =
    if srcOf w = 0 then .ok ("call " ++ dec (immOf w).toInt)
    else if srcOf w = 1 then .ok ("call " ++ jumpTarget w)
    else if srcOf w = 2 then .ok ("call " ++ dec (immOf w).toInt)
    else .invalid .callSelector := by
  unfold renderCall
  split
  case h_1 h | h_2 h | h_3 h => rw [eq_ofNat_of_toNat_eq h]; rfl
  case h_4 h0 h1 h2 =>
    rw [if_neg fun h => h0 (by rw [h]; rfl), if_neg fun h => h1 (by rw [h]; rfl), if_neg fun h => h2 (by rw [h]; rfl)]

/-- An immediate is its operation nibble, with or without the fetch bit, where its other bits are clear. -/
theorem eq_or_eq_of_nibble {v u : ImmField} (hrest : v &&& 0xffffff0e = 0) (hnibble : v &&& 0xf0 = u) :
    v = u ∨ v = u ||| 1 := by
  apply eq_or_eq_of_and_fffffffe
  calc v &&& 0xfffffffe
    _ = v &&& (0xffffff0e ||| 0xf0) := rfl
    _ = v &&& 0xffffff0e ||| v &&& 0xf0 := BitVec.and_or_distrib_left
    _ = u := by rw [hrest, hnibble]; exact BitVec.zero_or

/-- An immediate of no atomic operation is refused where the size and the class are those of an atomic (R177, D7). -/
theorem renderAtomic_of_not_named {z : Size} (hz : ¬(z = .b ∨ z = .h)) {w : Word} (hn : namesAtomicOp (immOf w) = false) :
    renderAtomic .stx z w = .invalid .atomicOp := by
  rw [renderAtomic, if_neg hz, if_neg (fun h => h rfl)]
  split
  case isTrue => rfl
  case isFalse hrest =>
    have hrest' := not_not.mp hrest
    split
    case h_7 => rfl
    all_goals
      rename_i hnibble
      rcases eq_or_eq_of_nibble hrest' (eq_ofNat_of_toNat_eq hnibble) with h | h <;>
        (rw [h] at hn; cases hn)

section
variable (w e : Word)

theorem rendersByRow_decodeArith (c : ArithClass) (sel : Source) (k : ArithCode) :
    RendersByRow (decodeArith c sel k w) w e (renderArithmetic c sel k w) := by
  cases k
  case div | mod =>
    cases c <;> cases sel <;> simp only [decodeArith, renderArithmetic] <;> split <;>
      (intro r hr
       cases hr
       simp_all [Row.render, Piece.text, ok_eq_ok_iff, reg, operandText, -RenderResult.ok.injEq])
  all_goals
    cases c <;> cases sel <;>
      (intro r hr
       cases hr
       simp [renderArithmetic, Row.render, Piece.text, ok_eq_ok_iff, reg, operandText, maskText, -RenderResult.ok.injEq])

theorem rendersByRow_decodeJump (c : JumpClass) (sel : Source) (k : JumpCode) :
    RendersByRow (decodeJump c sel k w) w e (renderJump c sel k w) := by
  cases k
  case call =>
    rw [renderJump, renderCall_eq]
    cases c <;> cases sel <;> simp only [decodeJump] <;> split_ifs <;>
      (intro r hr
       cases hr
       simp_all [Row.render, Piece.text, jumpTarget])
  all_goals
    cases c <;> cases sel <;>
      (intro r hr
       cases hr
       simp [renderJump, renderConditional, Row.render, Piece.text, ok_eq_ok_iff, reg, operandText, jumpTarget,
         -RenderResult.ok.injEq])

theorem rendersByRow_decodeImm (c : LSClass) (z : Size) :
    RendersByRow (decodeImm c z w e) w e (renderImm w (some e)) := by
  rw [renderImm]
  unfold decodeImm
  split
  all_goals
    intro r hr
    cases hr
    simp [Row.render, Piece.text, ok_eq_ok_iff, reg, -RenderResult.ok.injEq, *]

/-- The memory operand's text is put together from the pieces of the table. -/
theorem toList_memText (qualifier : String) (base : RegField) (o : OffField) : (memText qualifier base o).toList =
    "*(".toList ++ qualifier.toList ++ " *)(r".toList ++ (decNat base.toNat).toList ++ " ".toList ++
      (offOp o.toInt).toList ++ " ".toList ++ (offMag o.toInt).toList ++ ")".toList := by
  simp [memText, addrText, reg]

/-- What `Render` makes of an atomic encoding of opcode 0xc3 or 0xdb, by its immediate. -/
theorem rendersByRow_decodeAtomicW : RendersByRow (decodeAtomicW w) w e (renderAtomic .stx .w w) := by
  cases hn : namesAtomicOp (immOf w) with
  | false =>
    rw [decodeAtomicW_of_not_named hn]
    intro r hr
    cases hr
    exact renderAtomic_of_not_named (by decide) hn
  | true =>
    rcases immOf_of_named hn with h | h | h | h | h | h | h | h | h | h | h | h <;>
      (rw [decodeAtomicW, h]
       intro r hr
       cases hr
       simp [renderAtomic, renderAtomicOp, h, Row.render, Piece.text, ok_eq_ok_iff, toList_memText, reg, usize,
         -RenderResult.ok.injEq])


theorem rendersByRow_decodeAtomicDw : RendersByRow (decodeAtomicDw w) w e (renderAtomic .stx .dw w) := by
  cases hn : namesAtomicOp (immOf w) with
  | false =>
    rw [decodeAtomicDw_of_not_named hn]
    intro r hr
    cases hr
    exact renderAtomic_of_not_named (by decide) hn
  | true =>
    rcases immOf_of_named hn with h | h | h | h | h | h | h | h | h | h | h | h <;>
      (rw [decodeAtomicDw, h]
       intro r hr
       cases hr
       simp [renderAtomic, renderAtomicOp, h, Row.render, Piece.text, ok_eq_ok_iff, toList_memText, reg, usize,
         -RenderResult.ok.injEq])

theorem rendersByRow_decodeLoadStore (c : LSClass) (m : Mode) (z : Size) (extension : Option Word)
    (hext : m = .imm → extension = some e) :
    RendersByRow (decodeLoadStore c m z w e) w e (renderLoadStore c m z w extension) := by
  cases m
  case imm =>
    rw [hext rfl]
    exact rendersByRow_decodeImm w e c z
  case atomic =>
    cases z <;> cases c
    case w.stx => exact rendersByRow_decodeAtomicW w e
    case dw.stx => exact rendersByRow_decodeAtomicDw w e
    all_goals
      intro r hr
      cases hr
      rfl
  all_goals
    cases z <;> cases c <;>
      (intro r hr
       cases hr
       simp [renderLoadStore, renderMem, renderMemsx, usize, ssize, Row.render, Piece.text, ok_eq_ok_iff, toList_memText, reg,
         -RenderResult.ok.injEq])

end

/-- An Instruction of mode IMM has its extension word. -/
theorem extension_of_wf {ins : Instruction} (h : ins.wf = true) : ins.extension.isSome = isExtended ins.basic := by
  simp only [Instruction.wf, Bool.and_eq_true, beq_iff_eq] at h
  obtain ⟨hext, hsome⟩ := h
  rw [hsome, hext]

theorem rendersByRow_render {ins : Instruction} (h : ins.wf = true) :
    RendersByRow ins.decoded ins.basic (ins.extension.getD 0) (render ins) := by
  have hsome := extension_of_wf h
  rw [Instruction.decoded, decodeWords_eq_decodeTyped, render]
  rw [isExtended, opExtended] at hsome
  cases ht : toTyped (opcodeOf ins.basic) with
  | arithmetic c sel k => exact rendersByRow_decodeArith _ _ c sel k
  | jump c sel k => exact rendersByRow_decodeJump _ _ c sel k
  | loadStore c m z =>
    refine rendersByRow_decodeLoadStore _ _ c m z _ ?_
    rintro rfl
    rw [ht] at hsome
    obtain ⟨e, he⟩ := Option.isSome_iff_exists.mp hsome
    rw [he]
    rfl

/-! ## The statements -/

/-- Settles O11: the first matching row is that of the decoded instruction, and `Render`, family by family, prints its text. -/
theorem renderIsTheFirstMatchingRow : Obligations.RenderIsTheFirstMatchingRow :=
  fun ins r hwf hr => rendersByRow_render hwf r (rowOf_eq ins.basic _ ▸ hr)

end Sys2Proof.Proofs

/-! What a row does not read (R57, R58, decision D19): neither the decoded instruction nor its text depends on it. -/

namespace Sys2Proof.Proofs

open Sys2Proof Sys2Proof.Machine Sys2Proof.Laws

/-! ## Words that agree on the bits read -/

section
variable {w w' m : Word}

/-- Words that agree on the bits of a mask agree on the fields that it has whole. -/
theorem fields_of_and_eq (h : w &&& m = w' &&& m) :
    (opcodeOf m = 0xff → opcodeOf w = opcodeOf w') ∧ (srcOf m = 0xf → srcOf w = srcOf w') ∧
      (dstOf m = 0xf → dstOf w = dstOf w') ∧ (offOf m = 0xffff → offOf w = offOf w') ∧
      (immOf m = 0xffffffff → immOf w = immOf w') := by
  have whole {n : Nat} {a b k : BitVec n} (hk : k = BitVec.allOnes n) (hab : a &&& k = b &&& k) : a = b := by
    simpa [hk] using hab
  rw [and_eq_mkWord, and_eq_mkWord w'] at h
  exact ⟨fun hm => whole hm (by simpa only [opcodeOf_mkWord] using congrArg opcodeOf h),
    fun hm => whole hm (by simpa only [srcOf_mkWord] using congrArg srcOf h),
    fun hm => whole hm (by simpa only [dstOf_mkWord] using congrArg dstOf h),
    fun hm => whole hm (by simpa only [offOf_mkWord] using congrArg offOf h),
    fun hm => whole hm (by simpa only [immOf_mkWord] using congrArg immOf h)⟩

theorem and_eq_of_subset {r : Word} (hsub : r &&& m = m) (h : w &&& r = w' &&& r) : w &&& m = w' &&& m := by
  rw [← hsub, ← BitVec.and_assoc, h, BitVec.and_assoc]

theorem immOf_eq_of_and_nextImm {e e' : Word} (h : e &&& 0x00000000ffffffff#64 = e' &&& 0x00000000ffffffff#64) :
    immOf e = immOf e' := by
  rw [and_nextImm, and_nextImm] at h
  simpa only [immOf_mkWord] using congrArg immOf h

end

/-! ## The decoded instruction -/

theorem opcodeOf_reads : ∀ r ∈ opcodeTable, opcodeOf r.reads = 0xff := by decide +kernel

/-- Where `src` tells the rows of a typed opcode apart, they read it. -/
theorem srcOf_reads {t : TypedOpcode} (ht : readsSrc t = true) {w e : Word} {r : Row}
    (hr : opcodeTable[(decodeTyped t w e).ctorIdx]? = some r) : srcOf r.reads = 0xf := by
  cases t with
  | arithmetic c sel k =>
    cases k
    case div | mod =>
      simp only [decodeTyped] at hr
      cases c <;> cases sel <;> simp only [decodeArith] at hr <;> split at hr <;> (cases hr; rfl)
    all_goals cases ht
  | jump c sel k =>
    cases k
    case call =>
      simp only [decodeTyped] at hr
      cases c <;> cases sel <;> simp only [decodeJump] at hr <;> split_ifs at hr <;> (cases hr; rfl)
    all_goals cases ht
  | loadStore c m z =>
    cases m
    case imm =>
      simp only [decodeTyped, decodeLoadStore, decodeImm] at hr
      split at hr <;> (cases hr; rfl)
    all_goals cases ht

theorem immOf_reads_decodeAtomicW {w : Word} {r : Row} (hr : opcodeTable[(decodeAtomicW w).ctorIdx]? = some r) :
    immOf r.reads = 0xffffffff := by
  cases hn : namesAtomicOp (immOf w) with
  | false =>
    rw [decodeAtomicW_of_not_named hn] at hr
    cases hr
    rfl
  | true =>
    rcases immOf_of_named hn with h | h | h | h | h | h | h | h | h | h | h | h <;>
      (rw [decodeAtomicW, h] at hr; cases hr; rfl)

theorem immOf_reads_decodeAtomicDw {w : Word} {r : Row} (hr : opcodeTable[(decodeAtomicDw w).ctorIdx]? = some r) :
    immOf r.reads = 0xffffffff := by
  cases hn : namesAtomicOp (immOf w) with
  | false =>
    rw [decodeAtomicDw_of_not_named hn] at hr
    cases hr
    rfl
  | true =>
    rcases immOf_of_named hn with h | h | h | h | h | h | h | h | h | h | h | h <;>
      (rw [decodeAtomicDw, h] at hr; cases hr; rfl)

/-- Where the immediate tells the rows of a typed opcode apart, they read it. -/
theorem immOf_reads {t : TypedOpcode} (ht : readsImm t = true) {w e : Word} {r : Row}
    (hr : opcodeTable[(decodeTyped t w e).ctorIdx]? = some r) : immOf r.reads = 0xffffffff := by
  cases t with
  | arithmetic c sel k => cases ht
  | jump c sel k => cases ht
  | loadStore c m z =>
    cases c <;> cases m <;> cases z
    case stx.atomic.w => exact immOf_reads_decodeAtomicW hr
    case stx.atomic.dw => exact immOf_reads_decodeAtomicDw hr
    all_goals cases ht

/-- Words that agree on the bits the first matching row reads have that row. -/
theorem rowOf_of_and_reads {w w' : Word} {r : Row} (hr : rowOf w = some r) (h : w &&& r.reads = w' &&& r.reads) :
    rowOf w' = some r := by
  have hk := rowOf_eq w 0 ▸ hr
  obtain ⟨hop, hsrc, _, _, himm⟩ := fields_of_and_eq h
  have hop' := hop (opcodeOf_reads r (List.mem_of_getElem? hk))
  have hk' := hk
  rw [decodeWords_eq_decodeTyped, hop'] at hk'
  have hsame := ctorIdx_decodeWords_congr hop' (fun ht => hsrc (srcOf_reads ht hk')) (fun ht => himm (immOf_reads ht hk')) 0 0
  rw [rowOf_eq w' 0, ← hsame, hk]

/-- The bits that the first matching row reads decode to the instruction of the whole word: they are what it encodes to. -/
theorem decodeWords_and_reads {w e : Word} {r : Row} (hr : rowOf w = some r) :
    decodeWords (w &&& r.reads) ((if r.extended then [e &&& 0x00000000ffffffff#64] else []).headD 0) = decodeWords w e :=
  decodeWords_of_encode (decodeWords_wellFormed w e) (encodesReadBits_decodeWords w e r (rowOf_eq w e ▸ hr))

theorem decodeWords_congr {w w' e e' : Word} {r : Row} (hr : rowOf w = some r) (h : w &&& r.reads = w' &&& r.reads)
    (he : e &&& 0x00000000ffffffff#64 = e' &&& 0x00000000ffffffff#64) : decodeWords w e = decodeWords w' e' := by
  rw [← decodeWords_and_reads hr, ← decodeWords_and_reads (rowOf_of_and_reads hr h), h, he]

/-! ## The text -/

/-- The bits of the basic word that a piece of a text prints. -/
def pieceReads : Piece → Word
  | .lit _ | .nextImm => 0
  | .dst => mkWord 0 0 0xf 0 0
  | .src => mkWord 0 0xf 0 0 0
  | .imm | .imm64 => mkWord 0 0 0 0 0xffffffff
  | .sdecOff | .offSign | .offAbs => mkWord 0 0 0 0xffff 0

theorem pieceText_congr {w w' e e' : Word} {p : Piece} (h : w &&& pieceReads p = w' &&& pieceReads p)
    (he : immOf e = immOf e') : Piece.text w e p = Piece.text w' e' p := by
  obtain ⟨_, hsrc, hdst, hoff, himm⟩ := fields_of_and_eq h
  cases p
  case lit => rfl
  case dst => rw [Piece.text, Piece.text, hdst rfl]
  case src => rw [Piece.text, Piece.text, hsrc rfl]
  case imm => rw [Piece.text, Piece.text, himm rfl]
  case imm64 => rw [Piece.text, Piece.text, imm64Of, imm64Of, himm rfl, he]
  case nextImm => rw [Piece.text, Piece.text, he]
  case sdecOff | offSign | offAbs => rw [Piece.text, Piece.text, hoff rfl]

/-- The pieces of a row's text. -/
def rowPieces (r : Row) : List Piece :=
  match r.status with
  | .rendered text => text
  | .unsupported _ | .invalid _ => []

theorem pieceReads_subset : ∀ r ∈ opcodeTable, ∀ p ∈ rowPieces r, r.reads &&& pieceReads p = pieceReads p := by
  decide +kernel

theorem rowRender_congr {r : Row} (hr : r ∈ opcodeTable) {w w' e e' : Word} (h : w &&& r.reads = w' &&& r.reads)
    (he : immOf e = immOf e') : r.render w e = r.render w' e' := by
  have hpieces := pieceReads_subset r hr
  unfold rowPieces at hpieces
  unfold Row.render
  cases hs : r.status with
  | unsupported reason => rfl
  | invalid reason => rfl
  | rendered text =>
    rw [hs] at hpieces
    have htexts : text.map (Piece.text w e) = text.map (Piece.text w' e') :=
      List.map_congr_left fun p hp => pieceText_congr (and_eq_of_subset (hpieces p hp) h) he
    simp only [htexts]

/-! ## The statement -/

theorem getD_and_nextImm (extension : Option Word) : extension.getD 0 &&& 0x00000000ffffffff#64 =
    (extension.map (fun e => e &&& 0x00000000ffffffff)).getD 0 := by
  cases extension <;> rfl

/-- Settles O13: both Instructions have the same first matching row; they decode to what the bits it reads decode to, and its
text prints those bits only. -/
theorem unreadBitsChangeNothing : Obligations.UnreadBitsChangeNothing := by
  intro i j r hi hj hr h hext
  have hr' := rowOf_of_and_reads hr h
  have he : i.extension.getD 0 &&& 0x00000000ffffffff#64 = j.extension.getD 0 &&& 0x00000000ffffffff#64 := by
    rw [getD_and_nextImm, getD_and_nextImm, hext]
  refine ⟨decodeWords_congr hr h he, ?_⟩
  rw [renderIsTheFirstMatchingRow i r hi hr, renderIsTheFirstMatchingRow j r hj hr']
  exact rowRender_congr (List.mem_of_getElem? (rowOf_eq i.basic 0 ▸ hr)) h (immOf_eq_of_and_nextImm he)

end Sys2Proof.Proofs

/-! The conditions of `Render` (R72, R73): the opcode bytes of each typed opcode that is refused, and what each family's renderer
refuses. -/

namespace Sys2Proof.Proofs

open Sys2Proof Sys2Proof.Machine Sys2Proof.Laws

/-! ## The refused opcode bytes -/

def arithCodeOf : TypedOpcode → Option ArithCode
  | .arithmetic _ _ k => some k
  | .jump _ _ _ | .loadStore _ _ _ => none

def jumpCodeOf : TypedOpcode → Option JumpCode
  | .jump _ _ k => some k
  | .arithmetic _ _ _ | .loadStore _ _ _ => none

/-- A load or store opcode with the given mode, and a class and a size that meet a condition. -/
def isLoadStore (m : Mode) (p : LSClass → Size → Bool) : TypedOpcode → Bool
  | .loadStore c m' z => decide (m' = m) && p c z
  | .arithmetic _ _ _ | .jump _ _ _ => false

/-- The size of an atomic operation (R177). -/
def isAtomicSize (z : Size) : Bool := decide (z = .w) || decide (z = .dw)

section
variable (op : Opcode)

theorem mem_byteSwap_iff : op ∈ [0xd4, 0xdc, 0xd7, 0xdf] ↔ arithCodeOf (toTyped op) = some .end_ := by
  revert op; decide +kernel

theorem mem_arithCode_iff : op ∈ [0xe4, 0xec, 0xe7, 0xef, 0xf4, 0xfc, 0xf7, 0xff] ↔
    arithCodeOf (toTyped op) = some .codeE ∨ arithCodeOf (toTyped op) = some .codeF := by
  revert op; decide +kernel

theorem mem_jumpCode_iff : op ∈ [0xe5, 0xed, 0xe6, 0xee, 0xf5, 0xfd, 0xf6, 0xfe] ↔
    jumpCodeOf (toTyped op) = some .codeE ∨ jumpCodeOf (toTyped op) = some .codeF := by
  revert op; decide +kernel

theorem mem_call_iff : op ∈ [0x85, 0x8d, 0x86, 0x8e] ↔ jumpCodeOf (toTyped op) = some .call := by
  revert op; decide +kernel

theorem immMode_iff : op &&& 0xe4 = 0 ↔ isLoadStore .imm (fun _ _ => true) (toTyped op) = true := by
  revert op; decide +kernel

theorem absMode_iff : op &&& 0xe4 = 0x20 ↔ isLoadStore .abs (fun _ _ => true) (toTyped op) = true := by
  revert op; decide +kernel

theorem indMode_iff : op &&& 0xe4 = 0x40 ↔ isLoadStore .ind (fun _ _ => true) (toTyped op) = true := by
  revert op; decide +kernel

theorem undefinedMode_iff : op &&& 0xe4 = 0xa0 ∨ op &&& 0xe4 = 0xe0 ↔
    isLoadStore .mode5 (fun _ _ => true) (toTyped op) = true ∨ isLoadStore .mode7 (fun _ _ => true) (toTyped op) = true := by
  revert op; decide +kernel

theorem mem_memClass_iff : op ∈ [0x60, 0x68, 0x70, 0x78] ↔ isLoadStore .mem (fun c _ => c = .ld) (toTyped op) = true := by
  revert op; decide +kernel

theorem memsxClass_iff : op &&& 0xe4 = 0x80 ∧ op &&& 0x03 ≠ 1 ↔
    isLoadStore .memsx (fun c _ => c ≠ .ldx) (toTyped op) = true := by
  revert op; decide +kernel

theorem mem_atomicSize_iff : op ∈ [0xc8, 0xc9, 0xca, 0xcb, 0xd0, 0xd1, 0xd2, 0xd3] ↔
    isLoadStore .atomic (fun _ z => !isAtomicSize z) (toTyped op) = true := by
  revert op; decide +kernel

theorem mem_atomicClass_iff : op ∈ [0xc0, 0xc1, 0xc2, 0xd8, 0xd9, 0xda] ↔
    isLoadStore .atomic (fun c z => isAtomicSize z && c ≠ .stx) (toTyped op) = true := by
  revert op; decide +kernel

theorem mem_atomic_iff : op ∈ [0xc3, 0xdb] ↔
    isLoadStore .atomic (fun c z => isAtomicSize z && c = .stx) (toTyped op) = true := by
  revert op; decide +kernel

end

/-! ## What each family refuses -/

section
variable {w : Word} {u : UnsupportedReason} {v : InvalidReason}

theorem renderArithmetic_eq_unsupported_iff {c : ArithClass} {sel : Source} {k : ArithCode} :
    renderArithmetic c sel k w = .unsupported u ↔ u = .byteSwap ∧ k = .end_ := by
  cases k
  case div | mod =>
    simp only [renderArithmetic]
    split <;> simp
  all_goals simp [renderArithmetic, eq_comm]

theorem renderArithmetic_eq_invalid_iff {c : ArithClass} {sel : Source} {k : ArithCode} :
    renderArithmetic c sel k w = .invalid v ↔ v = .arithCode ∧ (k = .codeE ∨ k = .codeF) := by
  cases k
  case div | mod =>
    simp only [renderArithmetic]
    split <;> simp
  all_goals simp [renderArithmetic, eq_comm]

theorem renderCall_ne_unsupported : renderCall w ≠ .unsupported u := by
  unfold renderCall
  split <;> simp

theorem renderCall_eq_invalid_iff : renderCall w = .invalid v ↔ v = .callSelector ∧ 3 ≤ (srcOf w).toNat := by
  unfold renderCall
  split
  case h_1 h | h_2 h | h_3 h => simp [h]
  case h_4 h0 h1 h2 =>
    have hsel : 3 ≤ (srcOf w).toNat := by simp only [imp_false] at h0 h1 h2; omega
    simp [hsel, eq_comm]

theorem renderJump_ne_unsupported {c : JumpClass} {sel : Source} {k : JumpCode} : renderJump c sel k w ≠ .unsupported u := by
  cases k
  case call => exact renderCall_ne_unsupported
  all_goals simp [renderJump, renderConditional]

theorem renderJump_eq_invalid_iff {c : JumpClass} {sel : Source} {k : JumpCode} : renderJump c sel k w = .invalid v ↔
    (v = .jumpCode ∧ (k = .codeE ∨ k = .codeF)) ∨ (v = .callSelector ∧ k = .call ∧ 3 ≤ (srcOf w).toNat) := by
  cases k
  case call => simpa [renderJump] using renderCall_eq_invalid_iff
  all_goals simp [renderJump, renderConditional, eq_comm]

theorem renderImm_ne_unsupported {extension : Option Word} : renderImm w extension ≠ .unsupported u := by
  unfold renderImm
  split
  case h_1 => simp
  case h_2 => split <;> simp

theorem renderImm_eq_invalid_iff {e : Word} :
    renderImm w (some e) = .invalid v ↔ v = .immSelector ∧ 7 ≤ (srcOf w).toNat := by
  simp only [renderImm]
  split
  case h_8 h0 h1 h2 h3 h4 h5 h6 =>
    have hsel : 7 ≤ (srcOf w).toNat := by simp only [imp_false] at h0 h1 h2 h3 h4 h5 h6; omega
    simp [hsel, eq_comm]
  all_goals
    rename_i h
    simp [h]

theorem renderMem_ne_unsupported {c : LSClass} {z : Size} : renderMem c z w ≠ .unsupported u := by
  cases c <;> simp [renderMem]

theorem renderMem_eq_invalid_iff {c : LSClass} {z : Size} : renderMem c z w = .invalid v ↔ v = .memClass ∧ c = .ld := by
  cases c <;> simp [renderMem, eq_comm]

theorem renderMemsx_ne_unsupported {c : LSClass} {z : Size} : renderMemsx c z w ≠ .unsupported u := by
  cases c <;> simp [renderMemsx]

theorem renderMemsx_eq_invalid_iff {c : LSClass} {z : Size} :
    renderMemsx c z w = .invalid v ↔ v = .memsxClass ∧ c ≠ .ldx := by
  cases c <;> simp [renderMemsx, eq_comm]

/-- The atomic encodings that are defined and not implemented, by the immediate (R73, decisions D5, D7). -/
def UnsupportedAtomic (u : UnsupportedReason) (imm : ImmField) : Prop :=
  (u = .atomicFetch ∧ imm ∈ [0x01, 0x41, 0x51, 0xa1]) ∨ (u = .atomicXchg ∧ imm ∈ [0xe0, 0xe1]) ∨
    (u = .atomicCmpxchg ∧ imm ∈ [0xf0, 0xf1])

theorem namesAtomicOp_of_unsupportedAtomic {imm : ImmField} (h : UnsupportedAtomic u imm) : namesAtomicOp imm = true := by
  rcases h with ⟨_, h⟩ | ⟨_, h⟩ | ⟨_, h⟩
  all_goals fin_cases h <;> rfl

theorem not_b_or_h_of_isAtomicSize {z : Size} (hz : isAtomicSize z = true) : ¬(z = .b ∨ z = .h) := by
  cases z <;> simp_all [isAtomicSize]

theorem renderAtomic_stx_eq_unsupported_iff {z : Size} (hz : isAtomicSize z = true) :
    renderAtomic .stx z w = .unsupported u ↔ UnsupportedAtomic u (immOf w) := by
  have hz' := not_b_or_h_of_isAtomicSize hz
  cases hn : namesAtomicOp (immOf w) with
  | false =>
    rw [renderAtomic_of_not_named hz' hn]
    refine iff_of_false (fun h => nomatch h) fun h => ?_
    cases hn.symm.trans (namesAtomicOp_of_unsupportedAtomic h)
  | true =>
    rcases immOf_of_named hn with h | h | h | h | h | h | h | h | h | h | h | h <;>
      simp [renderAtomic, renderAtomicOp, UnsupportedAtomic, hz', h, eq_comm]

theorem renderAtomic_stx_eq_invalid_iff {z : Size} (hz : isAtomicSize z = true) :
    renderAtomic .stx z w = .invalid v ↔ v = .atomicOp ∧ namesAtomicOp (immOf w) = false := by
  have hz' := not_b_or_h_of_isAtomicSize hz
  cases hn : namesAtomicOp (immOf w) with
  | false =>
    rw [renderAtomic_of_not_named hz' hn]
    simp [eq_comm]
  | true =>
    rcases immOf_of_named hn with h | h | h | h | h | h | h | h | h | h | h | h <;>
      simp [renderAtomic, renderAtomicOp, hz', h]

theorem renderAtomic_eq_unsupported_iff {c : LSClass} {z : Size} :
    renderAtomic c z w = .unsupported u ↔ (isAtomicSize z = true ∧ c = .stx) ∧ UnsupportedAtomic u (immOf w) := by
  cases c
  case stx =>
    cases hz : isAtomicSize z with
    | false => cases z <;> simp_all [isAtomicSize, renderAtomic]
    | true => simpa using renderAtomic_stx_eq_unsupported_iff hz
  all_goals cases z <;> simp [renderAtomic]

theorem renderAtomic_eq_invalid_iff {c : LSClass} {z : Size} : renderAtomic c z w = .invalid v ↔
    (v = .atomicSize ∧ isAtomicSize z = false) ∨ (v = .atomicClass ∧ isAtomicSize z = true ∧ c ≠ .stx) ∨
      (v = .atomicOp ∧ (isAtomicSize z = true ∧ c = .stx) ∧ namesAtomicOp (immOf w) = false) := by
  cases c
  case stx =>
    cases hz : isAtomicSize z with
    | false => cases z <;> simp_all [isAtomicSize, renderAtomic, eq_comm (a := v)]
    | true => simpa using renderAtomic_stx_eq_invalid_iff hz
  all_goals cases z <;> simp [renderAtomic, isAtomicSize, eq_comm (a := v)]

end

/-! ## The statements -/

/-- Settles O52, family by family of the typed opcode. -/
theorem unsupportedExactlyTheUnimplementedEncodings : Obligations.UnsupportedExactlyTheUnimplementedEncodings := by
  intro ins u _
  rw [mem_byteSwap_iff, absMode_iff, indMode_iff, mem_atomic_iff, ← UnsupportedAtomic, render]
  cases toTyped (opcodeOf ins.basic) with
  | arithmetic c sel k =>
    simpa [arithCodeOf, isLoadStore] using renderArithmetic_eq_unsupported_iff
  | jump c sel k =>
    simpa [arithCodeOf, isLoadStore] using renderJump_ne_unsupported
  | loadStore c m z =>
    cases m
    case imm => simpa [arithCodeOf, isLoadStore, renderLoadStore] using renderImm_ne_unsupported
    case mem => simpa [arithCodeOf, isLoadStore, renderLoadStore] using renderMem_ne_unsupported
    case memsx => simpa [arithCodeOf, isLoadStore, renderLoadStore] using renderMemsx_ne_unsupported
    case atomic => simpa [arithCodeOf, isLoadStore, renderLoadStore] using renderAtomic_eq_unsupported_iff
    case abs | ind | mode5 | mode7 => simp [arithCodeOf, isLoadStore, renderLoadStore, eq_comm (a := u)]

/-- Settles O53, family by family of the typed opcode. -/
theorem invalidExactlyTheUndefinedEncodings : Obligations.InvalidExactlyTheUndefinedEncodings := by
  intro ins v hwf
  have hsome := extension_of_wf hwf
  rw [isExtended, opExtended] at hsome
  rw [mem_arithCode_iff, mem_jumpCode_iff, mem_call_iff, undefinedMode_iff, immMode_iff, mem_memClass_iff, memsxClass_iff,
    mem_atomicSize_iff, mem_atomicClass_iff, mem_atomic_iff, render]
  cases ht : toTyped (opcodeOf ins.basic) with
  | arithmetic c sel k =>
    simpa [arithCodeOf, jumpCodeOf, isLoadStore] using renderArithmetic_eq_invalid_iff
  | jump c sel k =>
    simpa [arithCodeOf, jumpCodeOf, isLoadStore] using renderJump_eq_invalid_iff
  | loadStore c m z =>
    cases m
    case imm =>
      rw [ht] at hsome
      obtain ⟨e, he⟩ := Option.isSome_iff_exists.mp hsome
      simpa [arithCodeOf, jumpCodeOf, isLoadStore, renderLoadStore, he] using renderImm_eq_invalid_iff
    case mem => simpa [arithCodeOf, jumpCodeOf, isLoadStore, renderLoadStore] using renderMem_eq_invalid_iff
    case memsx => simpa [arithCodeOf, jumpCodeOf, isLoadStore, renderLoadStore] using renderMemsx_eq_invalid_iff
    case atomic => simpa [arithCodeOf, jumpCodeOf, isLoadStore, renderLoadStore] using renderAtomic_eq_invalid_iff
    case abs | ind | mode5 | mode7 => simp [arithCodeOf, jumpCodeOf, isLoadStore, renderLoadStore, eq_comm (a := v)]

end Sys2Proof.Proofs

/-! The texts of 30_encoding.md sections 7.1 and 8: the decimals and hexadecimal digits spell their numbers, a line is put together
from its parts, and a listing has a line for each head. -/

namespace Sys2Proof.Proofs

open Sys2Proof Sys2Proof.Machine Sys2Proof.Laws

/-! ## Decimals (R80, R81, R85) -/

theorem decNat_toList (n : Nat) : (decNat n).toList = Nat.toDigits 10 n := by simp [decNat]

/-- The most significant digit of a number other than 0 is not 0. -/
theorem head?_toDigits_ne_zero {n : Nat} (hn : 0 < n) : (Nat.toDigits 10 n).head? ≠ some '0' := by
  induction n using Nat.strongRecOn with
  | ind n ih =>
    rw [Nat.toDigits_eq_if (by decide)]
    split
    case isTrue hlt => interval_cases n <;> decide
    case isFalse hge =>
      have hhead := ih (n / 10) (by omega) (by omega)
      cases hd : Nat.toDigits 10 (n / 10) with
      | nil => exact absurd hd Nat.toDigits_ne_nil
      | cons d ds => simpa [hd] using hhead

theorem digit_bounds {c : Char} (h : c.isDigit = true) : 48 ≤ c.toNat ∧ c.toNat ≤ 57 := by
  simpa [Char.isDigit, UInt32.le_iff_toNat_le] using h

theorem decNat_spells (n : Nat) : (decNat n).toList.foldl (fun acc c => 10 * acc + (c.toNat - 48)) 0 = n := by
  rw [decNat_toList]
  exact Nat.ofDigitChars_ten_toDigits

theorem sdec_eq (n : Int) : sdec n = (if n < 0 then "-" else "+") ++ decNat n.natAbs := by
  unfold sdec dec
  split <;> rfl

theorem offMag_eq (o : Int) : offMag o = decNat o.natAbs := by
  unfold offMag dec
  split
  case isTrue h => rw [if_neg (by omega), Int.natAbs_neg]
  case isFalse => rfl

theorem render_jump (off : OffField) : render ⟨mkWord 0x05 0 0 off 0, none, false⟩ = .ok ("goto " ++ sdec off.toInt) := by
  have hop : toTyped (opcodeOf (mkWord 0x05 0 0 off 0)) = .jump .jmp .k .ja := by rw [opcodeOf_mkWord]; rfl
  simp only [render, hop, renderJump, jumpTarget, offOf_mkWord]

theorem render_load (dst src : RegField) (off : OffField) : render ⟨mkWord 0x61 src dst off 0, none, false⟩ =
    .ok (reg dst ++ " = " ++ memText "u32" src off) := by
  have hop : toTyped (opcodeOf (mkWord 0x61 src dst off 0)) = .loadStore .ldx .mem .w := by rw [opcodeOf_mkWord]; rfl
  simp only [render, hop, renderLoadStore, renderMem, usize, dstOf_mkWord, srcOf_mkWord, offOf_mkWord]

/-! ## Hexadecimal digits (R83, decision D31) -/

theorem hexNumber_hexDigits {l : List Char} (h : ∀ c ∈ l, ∃ d < 16, c = hexDigit d) (acc : Nat) : hexNumber acc l =
    some (l.foldl (fun acc c => 16 * acc + (if c.toNat ≤ 57 then c.toNat - 48 else c.toNat - 87)) acc) := by
  induction l generalizing acc with
  | nil => rfl
  | cons c l ih =>
    obtain ⟨d, hd, rfl⟩ := h c List.mem_cons_self
    have hvalue : (if (hexDigit d).toNat ≤ 57 then (hexDigit d).toNat - 48 else (hexDigit d).toNat - 87) = d := by
      interval_cases d <;> rfl
    simp only [hexNumber, hexValue_hexDigit hd, List.foldl_cons, hvalue]
    exact ih (fun c hc => h c (List.mem_cons_of_mem _ hc)) _

theorem hexDigit_bounds {d : Nat} (hd : d < 16) :
    (48 ≤ (hexDigit d).toNat ∧ (hexDigit d).toNat ≤ 57) ∨ (97 ≤ (hexDigit d).toNat ∧ (hexDigit d).toNat ≤ 102) := by
  interval_cases d <;> decide

theorem mem_hex16 {w : Word} {c : Char} (h : c ∈ (hex16 w).toList) : ∃ d < 16, c = hexDigit d := by
  simp only [hex16, String.toList_ofList, List.mem_map] at h
  obtain ⟨k, _, rfl⟩ := h
  exact ⟨_, (w.extractLsb' (60 - 4 * k) 4).isLt, rfl⟩

theorem hexNumber_hex16 (w : Word) : hexNumber 0 (hex16 w).toList = some w.toNat := by
  rw [hex16, String.toList_ofList, hexNumber_nibbles w (Nat.le_refl 16), Nat.sub_self, pow_zero, Nat.div_one]

/-! ## Indices (R91) -/

theorem decNat_length (n : Nat) : (decNat n).length = (Nat.toDigits 10 n).length := by
  rw [← String.length_toList, decNat_toList]

theorem decNat_length_mono {i n : Nat} (h : i ≤ n) : (decNat i).length ≤ (decNat n).length := by
  rw [decNat_length, decNat_length]
  have hpos : 0 < (Nat.toDigits 10 n).length := Nat.length_toDigits_pos
  have hn := (Nat.length_toDigits_le_iff (by decide) hpos).mp (Nat.le_refl _)
  exact (Nat.length_toDigits_le_iff (by decide) hpos).mpr (Nat.lt_of_le_of_lt h hn)

/-! ## The slots of a listing (R93) -/

/-- Where every Instruction renders, exactly the head slots have a line. -/
theorem lineAt_isSome {ws : List Word} {m : Memory} {cfg : LineConfig} (hm : pair ws = .ok m)
    (hrender : ∀ i head ins, m[i]? = some head → instrAt m i head = .ok ins → ∃ t, render ins = .ok t)
    {i : Nat} {head : Slot} (h : m[i]? = some head) : (lineAt cfg m i).isSome = !head.isExtSlot := by
  cases hx : head.isExtSlot with
  | true => simp [lineAt_of_ext h hx]
  | false =>
    obtain ⟨ins, hi⟩ := instrAt_of_pair hm h hx
    obtain ⟨t, ht⟩ := hrender i head ins h hi
    simp [lineAt_of_render_ok h hi ht]

/-- Where every Instruction renders, the lines are as many as the head slots. -/
theorem length_filterMap_lineAt {ws : List Word} {m : Memory} {cfg : LineConfig} (hm : pair ws = .ok m)
    (hrender : ∀ i head ins, m[i]? = some head → instrAt m i head = .ok ins → ∃ t, render ins = .ok t) :
    ((List.range m.length).filterMap (lineAt cfg m)).length = m.length - m.countP Slot.isExtSlot := by
  have hslots : (List.range m.length).map (fun i => (lineAt cfg m i).isSome) = m.map (fun slot => !slot.isExtSlot) := by
    refine List.ext_getElem (by simp) fun i hi _ => ?_
    have hlt : i < m.length := by simpa using hi
    simpa using lineAt_isSome hm hrender (List.getElem?_eq_getElem hlt)
  calc ((List.range m.length).filterMap (lineAt cfg m)).length
    _ = (List.range m.length).countP (fun i => (lineAt cfg m i).isSome) := List.length_filterMap_eq_countP
    _ = ((List.range m.length).map (fun i => (lineAt cfg m i).isSome)).countP id := by rw [List.countP_map]; rfl
    _ = headsFrom m 0 := by rw [hslots, List.countP_map]; rfl
    _ = m.length - m.countP Slot.isExtSlot := headsFrom_zero m

/-! ## The statements -/

/-- Settles O55: the digits are those of the library's `Nat.toDigits`, and the two texts put the displacement's and the
offset's pieces together. -/
theorem decimalTextSpellsTheNumber : Obligations.DecimalTextSpellsTheNumber := by
  refine ⟨fun n => ⟨decNat_spells n, fun c hc => ?_, fun hn => ?_, ?_⟩, fun n => rfl, sdec_eq, fun o => ⟨rfl, offMag_eq o⟩,
    fun off => ?_, fun dst src off => ?_⟩
  · rw [decNat_toList] at hc
    exact digit_bounds (Nat.isDigit_of_mem_toDigits (by decide) (by decide) hc)
  · rw [decNat_toList]
    exact head?_toDigits_ne_zero hn
  · rintro rfl
    rfl
  · rw [render_jump, sdec_eq, String.append_assoc]
  · rw [render_load, memText, addrText, offMag_eq, offOp, reg, reg]
    refine congrArg RenderResult.ok (String.toList_injective ?_)
    split <;> simp

/-- Settles O56: the digits write the word, as the ASCII loader reads them. -/
theorem hexDumpSpellsTheWord : Obligations.HexDumpSpellsTheWord := by
  intro w
  refine ⟨by rw [← String.length_toList, hex16_length], fun c hc => ?_, ?_⟩
  · obtain ⟨d, hd, rfl⟩ := mem_hex16 hc
    exact hexDigit_bounds hd
  · have hspelled := hexNumber_hexDigits (fun c hc => mem_hex16 (w := w) hc) 0
    exact Option.some.inj (hspelled.symm.trans (hexNumber_hex16 w))

/-- Settles O57: an Instruction has an extension word exactly when it is extended, so the dump shows the words there are. -/
theorem lineIsIndexDumpAndText : Obligations.LineIsIndexDumpAndText := by
  intro i width ins number bytes hwf
  simp only [Instruction.wf, Bool.and_eq_true, beq_iff_eq] at hwf
  obtain ⟨_, hsome⟩ := hwf
  refine ⟨fun t ht => ?_, fun r hr => ?_, fun r hr => ?_⟩
  · simp only [renderLine, ht, indexText, dumpText, ← hsome]
    cases ins.extension <;> rfl
  · simp only [renderLine, hr]
  · simp only [renderLine, hr]

/-- Settles O58: no index below `l` has more digits than the highest one. -/
theorem indicesArePaddedToOneWidth : Obligations.IndicesArePaddedToOneWidth := by
  intro l i hi
  have hlen : (decNat i).length ≤ indexWidth l := decNat_length_mono (by omega)
  refine ⟨?_, indexWidth l - (decNat i).length, by simp [pad]⟩
  simp only [pad, String.length_append, String.length_ofList, List.length_replicate]
  omega

/-- Settles O59: every slot is passed over, so the listing is that of the slots up to the last. -/
theorem listingHasOneLinePerHead : Obligations.ListingHasOneLinePerHead := by
  intro ws m choice cfg hm hrender
  have hpassed (j : Nat) (_ : j < m.length) : PassedOver choice m j := by
    intro head ins hhead hins
    obtain ⟨t, ht⟩ := hrender j head ins hhead hins
    simp [ht]
  have hlisting := listing_eq_of_passedOver (cfg := cfg) hm (Nat.le_refl _) hpassed
  have hlast : listingFrom choice cfg m m.length = ⟨[], .ok⟩ := by simp [listingFrom]
  have hwords : ws.length = m.length := by
    rw [← (pair_eq_ok_iff.mp hm).1, Memory.words, List.length_map]
  rw [hlisting, hlast, hwords]
  refine ⟨rfl, by simp, ?_⟩
  simpa using length_filterMap_lineAt hm hrender

end Sys2Proof.Proofs
